-- ==== Sys2Proof/Word.lean ====
section
/-! DEFINITION. The two word sizes of the machine: the 8-bit data bus and the 16-bit address bus
(spec 00 R5). Arithmetic on them wraps modulo `2^8` and `2^16`, as `BitVec` arithmetic does. -/

namespace Sys2Proof

/-- An 8-bit value: A, X, Y, S, an operand byte, a byte on the data bus (00 R5). -/
abbrev Byte := BitVec 8

/-- A 16-bit value: PC, an address, a pointer (00 R5). -/
abbrev Word := BitVec 16

end Sys2Proof
end

