-- ==== Sys2Proof/Machine/Bits.lean ====
section
/-! DEFINITION. Bit fields, byte order and extension: the notation of 00 R7, and `Read16`'s pairing of
00 R8 (low byte at the lower address, 20 R42). -/

namespace Sys2Proof.Machine

/-- `w[15:8]`. -/
def hiByte (w : Word) : Byte := w.extractLsb' 8 8

/-- `w[7:0]`. -/
def loByte (w : Word) : Byte := w.extractLsb' 0 8

/-- `{hi, lo}`: the 16-bit value with `hi` above `lo` (00 R7). -/
def mkWord (hi lo : Byte) : Word := hi ++ lo

/-- `zext_16(b)`. -/
def zext16 (b : Byte) : Word := b.setWidth 16

/-- `sext_16(b)`: `b` read as two's complement. -/
def sext16 (b : Byte) : Word := b.signExtend 16

/-- `b[i]`. -/
def bit (i : Nat) (b : Byte) : Bool := b.getLsbD i

/-- A flag as the byte 0 or 1. -/
def flagByte (f : Bool) : Byte := (BitVec.ofBool f).setWidth 8

end Sys2Proof.Machine
end

