-- ==== Sys2Proof/Config.lean ====
section
/-! DEFINITION. The parameters of 00 R6 at the values the spec decides, and the FREE VALUES: opaque
constants with no body, of which nothing can be proved. The alternatives of each policy are types
here, and the operations of Machine/ model every alternative (`nmos` without the reads of 20 R58 (d): log
entry 26). -/

namespace Sys2Proof.Config

/-- 20 R50: what an access to the test region $4018-$401F does. -/
inductive TestRegionPolicy where
  /-- raises `Fault(UnmappedAccess)` -/
  | fault
  /-- reads any byte, ignores writes -/
  | draw
deriving DecidableEq, Repr

/-- 20 R53: what a PPUDATA access during rendering does. -/
inductive PpuDataPolicy where
  /-- raises `Fault(PpuDataDuringRendering)` -/
  | fault
  /-- hands the access to the PPU block like any other -/
  | permit
deriving DecidableEq, Repr

/-- 20 R58: whether the NMOS part's extra bus accesses are made. -/
inductive DummyAccess where
  /-- an instruction makes only the accesses its rule names -/
  | none
  /-- the accesses of R58 (a), (b) and (c) too; those of (d) are left out (log entry 26) -/
  | nmos
deriving DecidableEq, Repr

/-- 46 R225-R228: whether the unstable stores run or are refused. -/
inductive ShPolicy where
  | standard
  | refuse
deriving DecidableEq, Repr

/-- `TEST_REGION_POLICY` (00 R6, decision D15). -/
def testRegionPolicy : TestRegionPolicy := .fault

/-- `PPUDATA_RENDER_POLICY` (00 R6, decision D14). -/
def ppuDataRenderPolicy : PpuDataPolicy := .fault

/-- `DUMMY_ACCESS` (00 R6, decision D12). -/
def dummyAccess : DummyAccess := .none

/-- `SH_POLICY` (00 R6, decision D18). -/
def shPolicy : ShPolicy := .standard

/-- `DMA_ODD_EXTRA` (00 R6, decision D13): an odd write cycle index costs 514. -/
def dmaOddExtra : Bool := true

/-- `INT_ENTRY_CYCLES` (00 R6, decision D5). -/
def intEntryCycles : Nat := 7

/-- `RESET_CYCLE_COUNT` (00 R6, decision D11). -/
def resetCycleCount : Nat := 7

/-- `JAM_SET` (00 R6, decision D2): the opcodes that lock the CPU up. -/
def jamSet : List Byte :=
  [0x02, 0x12, 0x22, 0x32, 0x42, 0x52, 0x62, 0x72, 0x92, 0xB2, 0xD2, 0xF2]

/-- FREE VALUE (log entry 6). The byte a device register answers with: `DevRead` is an oracle, any byte
(20 R44, R49, decision D16). The first argument is the draw's number, so each read is a value of its
own; the second is the register read. -/
opaque devRead : Nat → Word → Byte

/-- FREE VALUE (log entry 11). The byte the test region answers with under the `draw` policy (20 R50). -/
opaque testRegionByte : Nat → Byte

/-- FREE VALUE (log entry 9). The constant of ANE ($8B): one byte of the machine, of which nothing is known
(46 R222, decision D17). It is a parameter, not a draw (60 R276). -/
opaque aneByte : Byte

/-- FREE VALUE (log entry 10). The constant of LXA ($AB) (46 R223, decision D17). -/
opaque lxaByte : Byte

/-- `ANE_MAGIC` (00 R6): `none` would be the spec's OPEN; it is bound to a free value (log entry 9). -/
def aneMagic : Option Byte := some aneByte

/-- `LXA_MAGIC` (00 R6): `none` would be the spec's OPEN; it is bound to a free value (log entry 10). -/
def lxaMagic : Option Byte := some lxaByte

/-- `CartRead` and `CartWrite` of a mapper block (20 R47, decision D27): two functions of the mapper's state,
which a natural number codes. An error is the responder's own fault, passed on unchanged (60 R262
`DeviceFault(d)`). -/
structure CartResponder where
  /-- `CartRead(addr) -> byte | Fault` -/
  read : Nat → Word → Except Nat Byte
  /-- `CartWrite(addr, v) -> mapper-state update | Fault` -/
  write : Nat → Word → Byte → Except Nat Nat
deriving Inhabited

/-- FREE VALUE (log entry 4). `CartRead` and `CartWrite` (00 R6, OPEN): the responder of a cartridge whose
mapper is not the NROM instance. -/
opaque cart : CartResponder

end Sys2Proof.Config
end

