-- ==== Sys2Proof/Machine/State.lean ====
section
/-! DEFINITION. The machine's state (spec 10), the reasons a tick can stop (60 R262, 00 R9), and the
state after reset (10 R38). -/

namespace Sys2Proof.Machine

/-- What a device sees of the CPU, in order (20 R4, R52, R54). -/
inductive DevEvent where
  /-- a read of a device register (00 R4: the device answers reads) -/
  | read (reg : Word)
  /-- a write of a device register (20 R52: recorded as an event in order) -/
  | write (reg : Word) (value : Byte)
  /-- a byte that OAM DMA hands to the PPU's sprite memory (20 R54) -/
  | oam (value : Byte)
deriving DecidableEq, Repr

/-- The cartridge's responder for $4020-$FFFF (20 R47, decision D27). -/
inductive Mapper where
  /-- the spec's NROM instance -/
  | nrom
  /-- any other mapper block, in a state coded as a number; its answers are `Config.cart`'s -/
  | other (state : Nat)
deriving DecidableEq, Repr

/-- A fault a device responder would answer with: an input (60 R262 `DeviceFault(d)`). -/
structure DevFault where
  /-- the device register (mirrors resolved) -/
  reg : Word
  /-- whether writes (`true`) or reads (`false`) of it fault -/
  onWrite : Bool
  /-- the responder's own fault, passed on unchanged -/
  kind : Nat
deriving DecidableEq, Repr

/-- Plain memory: the bytes the CPU reaches that are not devices, by physical key. Keys $0000-$07FF are
internal RAM (20 R46), $6000-$7FFF the NROM instance's PRG RAM, $8000 + offset its PRG ROM (20 R47).
A key that is not listed reads as `blankByte`. -/
abbrev Memory := List Host.Cell

/-- What a byte of memory that nothing has written reads as. DESIGN CHOICE, unsafe (log entry 3): the
spec leaves power-on RAM a draw. -/
def blankByte : Byte := 0

/-- The state of the CPU core and of what it reaches. -/
structure State where
  /-- the accumulator A (10 R20, R21) -/
  a : Byte
  /-- the index register X (10 R22) -/
  x : Byte
  /-- the index register Y (10 R22) -/
  y : Byte
  /-- the stack pointer S, an offset into page $01 (10 R27) -/
  sp : Byte
  /-- the program counter PC (10 R28) -/
  pc : Word
  /-- the flag N, negative (10 R23) -/
  n : Bool
  /-- the flag V, overflow (10 R23) -/
  v : Bool
  /-- the flag D, decimal: stored, never used in arithmetic (10 R29) -/
  d : Bool
  /-- the flag I, interrupt disable (10 R23) -/
  i : Bool
  /-- the flag Z, zero (10 R23) -/
  z : Bool
  /-- the flag C, carry (10 R23) -/
  c : Bool
  /-- queued stall cycles (10 R30); inside a boundary tick, the cycles charged so far (log entry 15) -/
  stall : Nat
  /-- the lock-up mark (10 R31) -/
  halted : Bool
  /-- CPU ticks counted (10 R32) -/
  cycles : Nat
  /-- the NMI latch (10 R33) -/
  nmiPending : Bool
  /-- INPUT: the IRQ level the APU drives (10 R34); no tick writes it -/
  irqLevel : Bool
  /-- RAM, PRG RAM and the cartridge image (20 R46, R47) -/
  mem : Memory
  /-- |PRG| of the NROM instance (20 R47); no tick writes it (log entry 4) -/
  prgSize : Nat
  /-- which responder answers cartridge space, with the mapper's state (20 R47; log entry 4) -/
  mapper : Mapper
  /-- INPUT: the PPU renders and is on a visible or pre-render line (20 R53); no tick writes it -/
  ppuRendering : Bool
  /-- INPUT: the faults device responders answer with (60 R262); no tick writes it (log entry 7) -/
  devFaults : List DevFault
  /-- the device events so far, oldest first (20 R52) -/
  devEvents : List DevEvent
  /-- the model's own counter of free values drawn (log entry 6) -/
  draws : Nat
deriving DecidableEq, Repr

/-- Why a tick stopped (60 R262, 00 R9). -/
inductive Fault where
  /-- Raised by the bus on an access to the test region $4018-$401F (20 R50, policy `fault`). Safe: the
  machine stops where the spec says it stops. -/
  | unmappedAccess
  /-- Raised by the cartridge responder (NROM instance) on an access to $4020-$5FFF (20 R47). Safe. -/
  | unmappedCartridge
  /-- Raised by the PPU on a PPUDATA access during rendering (20 R53, policy `fault`). Safe. -/
  | ppuDataDuringRendering
  /-- Raised by a device or mapper responder: the fault of its own that the CPU passes on unchanged (60
  R262 `DeviceFault(d)`). Safe. -/
  | deviceFault (kind : Nat)
  /-- The spec's outcome `Lockup` (00 R9, 60 R261), no `Fault` of 60 R262 (log entry 1): raised by the tick
  that decodes a JAM, with the state that tick leaves, and by every tick of a halted machine, with that
  machine's state. Safe: it is the outcome the spec gives, and the state is kept. -/
  | lockup (left : State)
deriving DecidableEq, Repr

/-- Why a decoded instruction has no meaning (the spec's `Refused`, 00 R9). -/
inductive Refusal where
  /-- Raised by an arm of `exec` whose instruction has no meaning yet. Safe. No arm does today. -/
  | notModelled (mnemonic : String)
  /-- Raised by SHA, SHX, SHY and TAS under `SH_POLICY = refuse` (46 R225-R228). Safe. The spec takes
  `standard`, under which nothing raises it. -/
  | shPolicy (mnemonic : String)
  /-- Raised by ANE and LXA while their constant is OPEN (46 R222, R223), and by a JAM opcode that another
  `JAM_SET` leaves out, to which no source gives a meaning (decision D2). Safe. The model binds the three
  parameters (log entries 9, 10, 11), so nothing raises it. -/
  | openParameter (mnemonic : String)
deriving DecidableEq, Repr

/-- The machine right after reset (10 R38, 70 R291), on a blank NROM cartridge: $FD in S, the flags of
`Pack(0) = $24`, no stall, 7 cycles. A, X, Y, RAM and the image are draws of the spec: log entries
2, 3, 4. PC is the reset vector as the blank image holds it (log entry 5). -/
def State.reset : State where
  a := 0
  x := 0
  y := 0
  sp := 0xFD
  pc := 0
  n := false
  v := false
  d := false
  i := true
  z := false
  c := false
  stall := 0
  halted := false
  cycles := Config.resetCycleCount
  nmiPending := false
  irqLevel := false
  mem := []
  prgSize := 0x4000
  mapper := .nrom
  ppuRendering := false
  devFaults := []
  devEvents := []
  draws := 0

end Sys2Proof.Machine
end

