-- ==== Sys2Proof/Machine/Flags.lean ====
section
/-! DEFINITION. The status flags: packing and unpacking (10 R24, R25), `SetNZ` (00 R8), the adder
(42 R130) and the comparison (42 R137). -/

namespace Sys2Proof.Machine

/-- `Pack(b)`: `{N, V, 1, b, D, I, Z, C}` (10 R24). -/
def pack (brk : Bool) (s : State) : Byte :=
  BitVec.ofBool s.n ++ BitVec.ofBool s.v ++ 1#1 ++ BitVec.ofBool brk ++
    BitVec.ofBool s.d ++ BitVec.ofBool s.i ++ BitVec.ofBool s.z ++ BitVec.ofBool s.c

/-- `Unpack(p)`: the six flags from a status byte; bits 5 and 4 are discarded (10 R25). -/
def unpack (p : Byte) (s : State) : State :=
  { s with n := bit 7 p, v := bit 6 p, d := bit 3 p, i := bit 2 p, z := bit 1 p, c := bit 0 p }

/-- `SetNZ(v)` (00 R8). -/
def setNZ (b : Byte) (s : State) : State := { s with z := b == 0, n := bit 7 b }

/-- `t = zext_9(A) + zext_9(m) + C`: the adder's nine bits (42 R130). -/
def sum9 (a m : Byte) (c : Bool) : BitVec 9 :=
  a.setWidth 9 + m.setWidth 9 + (BitVec.ofBool c).setWidth 9

/-- `r = t[7:0]` (42 R130). -/
def sumByte (a m : Byte) (c : Bool) : Byte := (sum9 a m c).setWidth 8

/-- `C <- t[8]` (42 R130). -/
def sumCarry (a m : Byte) (c : Bool) : Bool := (sum9 a m c).getLsbD 8

/-- `V <- ((~(A ^ m)) & (A ^ r))[7]` (42 R130). -/
def sumOverflow (a m : Byte) (c : Bool) : Bool :=
  bit 7 (~~~(a ^^^ m) &&& (a ^^^ sumByte a m c))

/-- `Add(m)`: the adder of ADC, SBC, RRA, ISC and USBC, binary whatever D holds (42 R130, 10 R29). -/
def addWithCarry (m : Byte) (s : State) : State :=
  setNZ (sumByte s.a m s.c)
    { s with a := sumByte s.a m s.c, v := sumOverflow s.a m s.c, c := sumCarry s.a m s.c }

/-- `Compare(reg, m)`: carry-in 1, no result kept, V not written (42 R137). -/
def compareWith (reg m : Byte) (s : State) : State :=
  setNZ (reg - m) { s with c := decide (m ≤ reg) }

end Sys2Proof.Machine
end

