-- ==== Sys2Proof/Machine/Ops.lean ====
section
/-! DEFINITION. The named operations over memory, bus, stack and program counter (10 R27, R28; 20), the
charging of cycles (60 R254, R255), interrupt entry and return (60 R259, 44 R183, R184), and reset
(70 R291). -/

namespace Sys2Proof.Machine

/-- The answer of an operation that can stop: a value with which the tick goes on, or the stop. -/
abbrev Res (α : Type) := Host.Outcome α Fault Refusal

/-- Go on with the answer; a stop ends the tick (20 R44, 60 R262). -/
def andThen {α β : Type} (r : Res α) (k : α → Res β) : Res β :=
  match r with
  | .next x => k x
  | .fault f => .fault f
  | .refused f => .refused f

/-! ## Plain memory -/

/-- The byte at a key; a key that is not listed reads as `blankByte`. -/
def Memory.read : Memory → Nat → Byte
  | [], _ => blankByte
  | (k, b) :: rest, key => if key = k then b else Memory.read rest key

/-- List `b` at `key`, keeping the keys rising. -/
def Memory.insert : Memory → Nat → Byte → Memory
  | [], key, b => [(key, b)]
  | (k, old) :: rest, key, b =>
    if key < k then (key, b) :: (k, old) :: rest
    else if key = k then (key, b) :: rest
    else (k, old) :: Memory.insert rest key b

/-- Unlist `key`. -/
def Memory.remove : Memory → Nat → Memory
  | [], _ => []
  | (k, old) :: rest, key => if key = k then rest else (k, old) :: Memory.remove rest key

/-- Write a byte, keeping the canonical form: writing what an unlisted key reads as unlists it. -/
def Memory.write (m : Memory) (key : Nat) (b : Byte) : Memory :=
  if b = blankByte then m.remove key else m.insert key b

/-- Every key listed is above `lo`, the keys rise strictly, and no byte listed is the blank byte. -/
def Memory.wfAbove : Nat → Memory → Bool
  | _, [] => true
  | lo, (k, b) :: rest => decide (lo ≤ k) && decide (b ≠ blankByte) && Memory.wfAbove (k + 1) rest

/-- The canonical form: strictly rising keys, no entry equal to what an unlisted key reads as. -/
def Memory.wf (m : Memory) : Bool := Memory.wfAbove 0 m

/-! ## The bus (20) -/

/-- The five regions of 20 R43. -/
inductive Region where
  | ram | ppu | io | test | cart
deriving DecidableEq, Repr

/-- The region an address decodes to (20 R43, R44). -/
def region (addr : Word) : Region :=
  if addr.toNat ≤ 0x1FFF then .ram
  else if addr.toNat ≤ 0x3FFF then .ppu
  else if addr.toNat ≤ 0x4017 then .io
  else if addr.toNat ≤ 0x401F then .test
  else .cart

/-- The RAM byte an address $0000-$1FFF selects: `addr & $07FF` (20 R46). -/
def ramKey (addr : Word) : Nat := (addr &&& 0x07FF).toNat

/-- The PRG ROM byte an address $8000-$FFFF selects: `PRG[(addr - $8000) mod |PRG|]` (20 R47). -/
def prgKey (prgSize : Nat) (addr : Word) : Nat := 0x8000 + (addr.toNat - 0x8000) % prgSize

/-- The device register an address selects, the PPU's mirrors resolved (20 R48, R49). -/
def devReg (addr : Word) : Word :=
  if addr.toNat ≤ 0x3FFF then 0x2000 + (addr &&& 0x0007) else addr

/-- The physical key of an address of cartridge space under the NROM instance; none at $4020-$5FFF, and
none under another mapper, whose block holds its own memory (20 R47). -/
def cartKey (s : State) (addr : Word) : Option Nat :=
  match s.mapper with
  | .nrom =>
    if addr.toNat < 0x6000 then none
    else if addr.toNat < 0x8000 then some addr.toNat
    else some (prgKey s.prgSize addr)
  | .other _ => none

/-- The physical key of an address of plain memory; none for a device, the test region, unmapped cartridge
space, and cartridge space that another mapper answers. -/
def memKey (s : State) (addr : Word) : Option Nat :=
  match region addr with
  | .ram => some (ramKey addr)
  | .cart => cartKey s addr
  | .ppu | .io | .test => none

/-! ### The cartridge responder (20 R47) -/

/-- The fault of a mapper block's answer: its own, passed on unchanged (60 R262). -/
def responderFault {α : Type} : Except Nat α → Option Fault
  | .ok _ => none
  | .error kind => some (.deviceFault kind)

/-- The fault `CartRead(addr)` raises, if any. -/
def cartReadFault (r : Config.CartResponder) (addr : Word) (s : State) : Option Fault :=
  match s.mapper with
  | .nrom => if addr.toNat < 0x6000 then some .unmappedCartridge else none
  | .other state => responderFault (r.read state addr)

/-- The byte a `CartRead(addr)` that does not fault returns. -/
def cartByte (r : Config.CartResponder) (addr : Word) (s : State) : Byte :=
  match s.mapper with
  | .nrom => s.mem.read (if addr.toNat < 0x8000 then addr.toNat else prgKey s.prgSize addr)
  | .other state =>
    match r.read state addr with
    | .ok b => b
    | .error _ => blankByte

/-- The fault `CartWrite(addr, b)` raises, if any. -/
def cartWriteFault (r : Config.CartResponder) (addr : Word) (b : Byte) (s : State) : Option Fault :=
  match s.mapper with
  | .nrom => if addr.toNat < 0x6000 then some .unmappedCartridge else none
  | .other state => responderFault (r.write state addr b)

/-- The state a `CartWrite(addr, b)` that does not fault leaves: a byte of PRG RAM or nothing under the
NROM instance, an update of the mapper's state under another mapper. -/
def afterCartWrite (r : Config.CartResponder) (addr : Word) (b : Byte) (s : State) : State :=
  match s.mapper with
  | .nrom =>
    if 0x6000 ≤ addr.toNat ∧ addr.toNat < 0x8000 then { s with mem := s.mem.write addr.toNat b } else s
  | .other state =>
    match r.write state addr b with
    | .ok state' => { s with mapper := .other state' }
    | .error _ => s

/-! ### Faults, reads and writes -/

/-- The fault of an access to the test region (20 R50). -/
def testRegionFault (p : Config.TestRegionPolicy) : Option Fault :=
  match p with
  | .fault => some .unmappedAccess
  | .draw => none

/-- Whether an access to `reg` is the PPUDATA violation of 20 R53. -/
def ppuDataViolation (p : Config.PpuDataPolicy) (reg : Word) (s : State) : Bool :=
  match p with
  | .fault => reg == 0x2007 && s.ppuRendering
  | .permit => false

/-- The fault a device access raises, if any: the PPUDATA violation (20 R53), else the fault the
responder answers with (60 R262). -/
def devFault (onWrite : Bool) (reg : Word) (s : State) : Option Fault :=
  if ppuDataViolation Config.ppuDataRenderPolicy reg s then some .ppuDataDuringRendering
  else (s.devFaults.find? fun f => f.reg == reg && f.onWrite == onWrite).map
    fun f => .deviceFault f.kind

/-- The fault a bus read raises, if any (20 R44). -/
def readFault (addr : Word) (s : State) : Option Fault :=
  match region addr with
  | .ram => none
  | .ppu | .io => devFault false (devReg addr) s
  | .test => testRegionFault Config.testRegionPolicy
  | .cart => cartReadFault Config.cart addr s

/-- The byte a bus read that does not fault returns (20 R44). A device's answer is a free value. -/
def readByte (addr : Word) (s : State) : Byte :=
  match region addr with
  | .ram => s.mem.read (ramKey addr)
  | .ppu | .io => Config.devRead s.draws (devReg addr)
  | .test => Config.testRegionByte s.draws
  | .cart => cartByte Config.cart addr s

/-- The state a bus read that does not fault leaves: RAM and `CartRead` are idempotent (20 R46, R47, R51), a
device sees the read, and a free value is drawn. -/
def afterRead (addr : Word) (s : State) : State :=
  match region addr with
  | .ram | .cart => s
  | .ppu | .io =>
    { s with devEvents := s.devEvents ++ [.read (devReg addr)], draws := s.draws + 1 }
  | .test => { s with draws := s.draws + 1 }

/-- `MemRead(addr)` (20 R44). -/
def memRead (addr : Word) (s : State) : Res (Byte × State) :=
  match readFault addr s with
  | some f => .fault f
  | none => .next (readByte addr s, afterRead addr s)

/-- `Read16(addr)`: the low byte first, then the byte at `addr + 1 mod 2^16` (00 R8, 20 R42). -/
def read16 (addr : Word) (s : State) : Res (Word × State) :=
  andThen (memRead addr s) fun lo =>
  andThen (memRead (addr + 1) lo.2) fun hi =>
  .next (mkWord hi.1 lo.1, hi.2)

/-- One byte of OAM DMA: a `MemRead` of `{page, i}`, handed to sprite memory (20 R54). -/
def dmaByte (page : Byte) (s : State) (i : Nat) : State :=
  let addr := mkWord page (BitVec.ofNat 8 i)
  let after := afterRead addr s
  { after with devEvents := after.devEvents ++ [.oam (readByte addr s)] }

/-- The 256 reads of OAM DMA, in increasing order (20 R54). -/
def dmaCopy (page : Byte) (s : State) : State :=
  (List.range 256).foldl (dmaByte page) s

/-- The fault of OAM DMA's first read that faults (20 R54, 60 R265). No read of the DMA changes whether
a later one faults. -/
def dmaFault (page : Byte) (s : State) : Option Fault :=
  (List.range 256).findSome? fun i => readFault (mkWord page (BitVec.ofNat 8 i)) s

/-- `dma_cycles` of a write on cycle index `tw` (20 R55). -/
def dmaCycles (oddExtra : Bool) (tw : Nat) : Nat :=
  513 + if (tw % 2 == 1) == oddExtra then 1 else 0

/-- `OamDma(v)` started by a write on cycle index `tw`: the copy, and its cost as stall (20 R54-R56). -/
def oamDma (tw : Nat) (page : Byte) (s : State) : State :=
  let t := dmaCopy page s
  { t with stall := t.stall + dmaCycles Config.dmaOddExtra tw }

/-- The OAM DMA trigger (20 R45). -/
def oamDmaReg : Word := 0x4014

/-- The fault a bus write raises, if any (20 R45). A write to $4014 raises that of the device, else that
of its DMA's reads. -/
def writeFault (addr : Word) (b : Byte) (s : State) : Option Fault :=
  match region addr with
  | .ram => none
  | .ppu => devFault true (devReg addr) s
  | .io =>
    match devFault true (devReg addr) s with
    | some f => some f
    | none => if addr = oamDmaReg then dmaFault b s else none
  | .test => testRegionFault Config.testRegionPolicy
  | .cart => cartWriteFault Config.cart addr b s

/-- The device sees a write (20 R52). -/
def devWrite (reg : Word) (b : Byte) (s : State) : State :=
  { s with devEvents := s.devEvents ++ [.write reg b] }

/-- The state a bus write that does not fault leaves (20 R45, R47, R52). A write to the test region
has no effect. `tw` is the write cycle index of 20 R55. -/
def afterWrite (tw : Nat) (addr : Word) (b : Byte) (s : State) : State :=
  match region addr with
  | .ram => { s with mem := s.mem.write (ramKey addr) b }
  | .cart => afterCartWrite Config.cart addr b s
  | .test => s
  | .ppu => devWrite (devReg addr) b s
  | .io =>
    if addr = oamDmaReg then oamDma tw b (devWrite (devReg addr) b s)
    else devWrite (devReg addr) b s

/-- `MemWrite(addr, b)` (20 R45). -/
def memWrite (tw : Nat) (addr : Word) (b : Byte) (s : State) : Res State :=
  match writeFault addr b s with
  | some f => .fault f
  | none => .next (afterWrite tw addr b s)

/-! ## Stack (10 R27) -/

/-- The address `{$01, S}`. -/
def stackAddr (sp : Byte) : Word := mkWord 0x01 sp

/-- `Push(b)`: write, then decrement. The stack page is RAM, so the write reaches RAM (20 R46). -/
def push (b : Byte) (s : State) : State :=
  { s with mem := s.mem.write (ramKey (stackAddr s.sp)) b, sp := s.sp - 1 }

/-- The byte `Pull()` returns: at `{$01, S + 1}`. -/
def pulled (s : State) : Byte := s.mem.read (ramKey (stackAddr (s.sp + 1)))

/-- The state `Pull()` leaves: S incremented. -/
def afterPull (s : State) : State := { s with sp := s.sp + 1 }

/-- A 16-bit push: high byte first, so the low byte lies lower (10 R27, 20 R42). -/
def push16 (w : Word) (s : State) : State := push (loByte w) (push (hiByte w) s)

/-- A 16-bit pull: low byte, then high byte. -/
def pulled16 (s : State) : Word := mkWord (pulled (afterPull s)) (pulled s)

/-- The state a 16-bit pull leaves. -/
def afterPull16 (s : State) : State := afterPull (afterPull s)

/-! ## Program counter and cycles -/

/-- `PC <- PC + length mod 2^16`, before the operation runs (40 R91). -/
def advance (len : Word) (s : State) : State := { s with pc := s.pc + len }

/-- The write cycle index `t_w` of an instruction that costs `cost`: the cycles at the start of the
boundary tick, plus the interrupt-entry cycles (already in `stall`), plus `cost - 1` (20 R55). -/
def writeCycle (cost : Nat) (s : State) : Nat := s.cycles + s.stall + (cost - 1)

/-- The end of a boundary tick: `cost - 1` stall cycles join those of the entry and of any DMA, and the
tick itself counts (60 R250, R255). -/
def charge (cost : Nat) (s : State) : State :=
  { s with stall := s.stall + (cost - 1), cycles := s.cycles + 1 }

/-! ## Exceptions (60 R259, 44 R183, R184) -/

/-- The NMI vector's address (20 R67). -/
def nmiVector : Word := 0xFFFA
/-- The reset vector's address (20 R67). -/
def resetVector : Word := 0xFFFC
/-- The IRQ and BRK vector's address (20 R67). -/
def irqVector : Word := 0xFFFE

/-- Taking an exception, shared by NMI, IRQ and BRK: push the return address high byte first, push
`Pack(brk)`, set I, and continue at the vector (60 R259, 44 R183). -/
def takeException (vec ret : Word) (brk : Bool) (s : State) : Res State :=
  let pushed := push (pack brk s) (push16 ret s)
  andThen (read16 vec { pushed with i := true }) fun r => .next { r.2 with pc := r.1 }

/-- `Enter(vec)`, the entry of a hardware interrupt: the return address is PC, bit 4 of the pushed status
is 0, and the entry costs `INT_ENTRY_CYCLES` (60 R259). -/
def enterInterrupt (vec : Word) (s : State) : Res State :=
  andThen (takeException vec s.pc false s) fun t =>
  .next { t with stall := t.stall + Config.intEntryCycles }

/-- The return from an exception: the flags, then PC low and high, with no `+1` (44 R184). -/
def returnFromException (s : State) : State :=
  let t := afterPull (unpack (pulled s) s)
  { afterPull16 t with pc := pulled16 t }

/-- The poll at the start of a boundary tick: NMI first, then an IRQ that I does not mask (60 R253). -/
def poll (s : State) : Res State :=
  if s.nmiPending then enterInterrupt nmiVector { s with nmiPending := false }
  else if !s.i && s.irqLevel then enterInterrupt irqVector s
  else .next s

/-- A stall tick (60 R251). -/
def stallTick (s : State) : State := { s with stall := s.stall - 1, cycles := s.cycles + 1 }

/-- What decoding a JAM leaves: `halted` is set, PC stays at the opcode, no stall is queued, and the tick is
not counted (46 R234, 60 R261). -/
def lockUp (s : State) : State := { s with halted := true, stall := 0 }

/-! ## Reset and the host's side (70 R290-R293, 60 R277) -/

/-- The draws and the choices of a power cycle that the CPU core does not fix (70 R290, R291). -/
structure PowerOn where
  /-- `POWER_ON_AXY.a` -/
  a : Byte
  /-- `POWER_ON_AXY.x` -/
  x : Byte
  /-- `POWER_ON_AXY.y` -/
  y : Byte
  /-- `POWER_ON_RAM`: the byte of each RAM address from $0000 on; a byte not given is blank -/
  ram : List Byte
  /-- whether the NROM instance keeps cartridge RAM (70 R290) -/
  keepPrgRam : Bool
  /-- the state another mapper block comes up in, what it keeps included (70 R290) -/
  mapperState : Nat
deriving DecidableEq, Repr

/-- Write a list of bytes at rising keys, at most up to the end of internal RAM. -/
def loadRam : Nat → List Byte → Memory → Memory
  | _, [], m => m
  | key, b :: rest, m => if key < 0x800 then loadRam (key + 1) rest (m.write key b) else m

/-- The cartridge's part of memory that survives a power cycle (70 R290). -/
def cartMemory (keepPrgRam : Bool) (m : Memory) : Memory :=
  m.filter fun cell => decide ((if keepPrgRam then 0x6000 else 0x8000) ≤ cell.1)

/-- The mapper is rebuilt with the rest (70 R290): the NROM instance has no state but its memory. -/
def rebuiltMapper (state : Nat) : Mapper → Mapper
  | .nrom => .nrom
  | .other _ => .other state

/-- The state a power cycle leaves before the vector is read (70 R291). -/
def rebuilt (p : PowerOn) (s : State) : State :=
  { s with
    a := p.a, x := p.x, y := p.y
    mem := loadRam 0 p.ram (cartMemory p.keepPrgRam s.mem)
    sp := 0xFD
    n := false, v := false, d := false, i := true, z := false, c := false
    stall := 0, halted := false, nmiPending := false
    cycles := Config.resetCycleCount
    mapper := rebuiltMapper p.mapperState s.mapper
    devEvents := [] }

/-- `Reset()`: a power cycle from any state; it fails with the fault of the vector read (70 R291, R292). -/
def powerOn (p : PowerOn) (s : State) : Res State :=
  andThen (read16 resetVector (rebuilt p s)) fun r => .next { r.2 with pc := r.1 }

/-- The overrides of a test launch on the state after reset (70 R293). -/
def testLaunch (s : State) : State := { s with pc := 0xC000, a := 0, x := 0, y := 0 }

end Sys2Proof.Machine
end

