-- ==== Sys2Proof/Machine/Operands.lean ====
section
/-! DEFINITION. The operand forms (40): effective addresses, page crossings, the operand read, and the
three ways an instruction uses its effective address, with the cost of each (40 R103-R106, 70 R299). -/

namespace Sys2Proof.Machine

/-- The addressing modes with an operand value or an effective address, with their operand bytes
(30 R71). IMP, ACC, REL and IND have operations of their own. -/
inductive Mode where
  | imm (n : Byte)
  | zp (n : Byte)
  | zpx (n : Byte)
  | zpy (n : Byte)
  | izx (n : Byte)
  | izy (n : Byte)
  | abs (addr : Word)
  | abx (base : Word)
  | aby (base : Word)
deriving DecidableEq, Repr

/-- The instruction's length in its mode (30 R70). -/
def modeLength : Mode → Word
  | .imm _ | .zp _ | .zpx _ | .zpy _ | .izx _ | .izy _ => 2
  | .abs _ | .abx _ | .aby _ => 3

/-- A 16-bit pointer in zero page: both bytes are read in zero page, which is RAM (40 R100, R101). -/
def zpPointer (p : Byte) (s : State) : Word :=
  mkWord (s.mem.read (ramKey (zext16 (p + 1)))) (s.mem.read (ramKey (zext16 p)))

/-- The address before indexing (40 R98, R101); for a mode that does not index a 16-bit base, the
effective address itself. An immediate has none: its value is never used. -/
def baseAddr (m : Mode) (s : State) : Word :=
  match m with
  | .imm n => zext16 n
  | .zp n => zext16 n
  | .zpx n => zext16 (n + s.x)
  | .zpy n => zext16 (n + s.y)
  | .izx n => zpPointer (n + s.x) s
  | .izy n => zpPointer n s
  | .abs addr => addr
  | .abx base => base
  | .aby base => base

/-- The effective address (40 R95-R101). -/
def effAddr (m : Mode) (s : State) : Word :=
  match m with
  | .abx base => base + zext16 s.x
  | .aby base => base + zext16 s.y
  | .izy n => zpPointer n s + zext16 s.y
  | .imm _ | .zp _ | .zpx _ | .zpy _ | .izx _ | .abs _ => baseAddr m s

/-- `cross = (base[15:8] != EA[15:8])` (40 R98, R101); false in a mode that does not index a base. -/
def pageCross (m : Mode) (s : State) : Bool := hiByte (baseAddr m s) != hiByte (effAddr m s)

/-- Whether the mode indexes a 16-bit base: ABX, ABY, IZY (20 R58, 30 R81). -/
def indexesBase : Mode → Bool
  | .abx _ | .aby _ | .izy _ => true
  | .imm _ | .zp _ | .zpx _ | .zpy _ | .izx _ | .abs _ => false

/-! ## Cost by class and mode (70 R299) -/

/-- Base cycles of a read-class instruction (70 R299). -/
def readBase : Mode → Nat
  | .imm _ => 2
  | .zp _ => 3
  | .zpx _ | .zpy _ | .abs _ | .abx _ | .aby _ => 4
  | .izy _ => 5
  | .izx _ => 6

/-- The cost of a read-class instruction: one more when the mode's page-cross flag is true (40 R106). -/
def readCost (m : Mode) (s : State) : Nat := readBase m + if pageCross m s then 1 else 0

/-- The cost of a store-class instruction (70 R299). -/
def storeCost : Mode → Nat
  | .imm _ => 2
  | .zp _ => 3
  | .zpx _ | .zpy _ | .abs _ => 4
  | .abx _ | .aby _ => 5
  | .izx _ | .izy _ => 6

/-- The cost of a read-modify-write instruction on memory (70 R299). -/
def rmwCost : Mode → Nat
  | .imm _ => 2
  | .zp _ => 5
  | .zpx _ | .zpy _ | .abs _ => 6
  | .abx _ | .aby _ => 7
  | .izx _ | .izy _ => 8

/-! ## The NMOS part's dummy accesses (20 R58) -/

/-- 20 R58 (a), (b): one extra read of `{base[15:8], EA[7:0]}`, in a mode that indexes a base, when the
page is crossed or `always`. None under `DUMMY_ACCESS = none`. R58 (d) does not list its further reads of
zero page, the stack page and the instruction stream. DESIGN CHOICE (log entry 26): `nmos` adds none of
them here. -/
def dummyRead (p : Config.DummyAccess) (always : Bool) (m : Mode) (s : State) : Res State :=
  match p with
  | .none => .next s
  | .nmos =>
    if indexesBase m && (always || pageCross m s) then
      andThen (memRead (mkWord (hiByte (baseAddr m s)) (loByte (effAddr m s))) s) fun r => .next r.2
    else .next s

/-- 20 R58 (c): a read-modify-write writes the unmodified value first. -/
def dummyWrite (p : Config.DummyAccess) (tw : Nat) (addr : Word) (b : Byte) (s : State) : Res State :=
  match p with
  | .none => .next s
  | .nmos => memWrite tw addr b s

/-! ## How instruction classes use the operand (40 R103-R105) -/

/-- The operand value `M` of a read-class instruction (40 R103). -/
def fetchOperand (m : Mode) (s : State) : Res (Byte × State) :=
  match m with
  | .imm n => .next (n, s)
  | .zp _ | .zpx _ | .zpy _ | .izx _ | .izy _ | .abs _ | .abx _ | .aby _ => memRead (effAddr m s) s

/-- A read-class instruction: read `M` once, apply `f`, charge the cost (40 R91, R103, R106). -/
def readInstr (m : Mode) (f : Byte → State → State) (s : State) : Res State :=
  let start := advance (modeLength m) s
  andThen (dummyRead Config.dummyAccess false m start) fun s1 =>
  andThen (fetchOperand m s1) fun r =>
  .next (charge (readCost m start) (f r.1 r.2))

/-- A store-class instruction: one write of `value` at EA, which is not read (40 R105). -/
def storeInstr (m : Mode) (value : State → Byte) (s : State) : Res State :=
  let start := advance (modeLength m) s
  let tw := writeCycle (storeCost m) start
  andThen (dummyRead Config.dummyAccess true m start) fun s1 =>
  andThen (memWrite tw (effAddr m start) (value start) s1) fun s2 =>
  .next (charge (storeCost m) s2)

/-- A read-modify-write instruction on memory: read `v`, write `result v C` once, then `post v r` (the
flags, and A for the combined opcodes, are written after the memory: 40 R104, 46 §2). -/
def rmwInstr (m : Mode) (result : Byte → Bool → Byte) (post : Byte → Byte → State → State)
    (s : State) : Res State :=
  let start := advance (modeLength m) s
  let addr := effAddr m start
  let tw := writeCycle (rmwCost m) start
  andThen (dummyRead Config.dummyAccess true m start) fun s1 =>
  andThen (memRead addr s1) fun r =>
  andThen (dummyWrite Config.dummyAccess tw addr r.1 r.2) fun s2 =>
  andThen (memWrite tw addr (result r.1 start.c) s2) fun s3 =>
  .next (charge (rmwCost m) (post r.1 (result r.1 start.c) s3))

/-- An accumulator-mode instruction: `v = A`, `r` goes to A, no bus access (40 R93, R104). -/
def accInstr (result : Byte → Bool → Byte) (post : Byte → Byte → State → State)
    (s : State) : Res State :=
  let start := advance 1 s
  let r := result start.a start.c
  .next (charge 2 (post start.a r { start with a := r }))

/-- An implied-mode instruction that makes no access beyond its fetch (40 R92). -/
def impliedInstr (cost : Nat) (f : State → State) (s : State) : Res State :=
  .next (charge cost (f (advance 1 s)))

end Sys2Proof.Machine
end

