-- ==== Sys2Proof/Machine/Arith.lean ====
section
/-! DEFINITION. Arithmetic, logic, compare, increment and decrement (spec 42). One meaning per opcode, over
the shared operations of Operands.lean and of this file. -/

namespace Sys2Proof.Machine

/-- `Add(M)` (R131). -/
def adc (m : Byte) (s : State) : State := addWithCarry m s

/-- `Add(~M & $FF)` (R132). -/
def sbc (m : Byte) (s : State) : State := addWithCarry (~~~m) s

/-- `A <- A & M; SetNZ(A)` (R133). -/
def andA (m : Byte) (s : State) : State := setNZ (s.a &&& m) { s with a := s.a &&& m }

/-- `A <- A | M; SetNZ(A)` (R134). -/
def oraA (m : Byte) (s : State) : State := setNZ (s.a ||| m) { s with a := s.a ||| m }

/-- `A <- A ^ M; SetNZ(A)` (R135). -/
def eorA (m : Byte) (s : State) : State := setNZ (s.a ^^^ m) { s with a := s.a ^^^ m }

/-- `Z <- ((A & M) == 0); N <- M[7]; V <- M[6]` (R136). -/
def bitTest (m : Byte) (s : State) : State :=
  { s with z := (s.a &&& m) == 0, n := bit 7 m, v := bit 6 m }

/-- `Compare(A, M)` (R138). -/
def cmpA (m : Byte) (s : State) : State := compareWith s.a m s

/-- `Compare(X, M)` (R139). -/
def cmpX (m : Byte) (s : State) : State := compareWith s.x m s

/-- `Compare(Y, M)` (R140). -/
def cmpY (m : Byte) (s : State) : State := compareWith s.y m s

/-- `r = v + 1 mod 2^8` (R141). -/
def incByte (b : Byte) (_ : Bool) : Byte := b + 1

/-- `r = v - 1 mod 2^8` (R142). -/
def decByte (b : Byte) (_ : Bool) : Byte := b - 1

/-- `SetNZ(r)`, after INC and DEC (R141, R142). -/
def afterCount (_ r : Byte) (s : State) : State := setNZ r s

/-- $61 ADC (n,X) (R131). -/
def execAdcIzx (n : Byte) (s : State) : Res State :=
  readInstr (.izx n) adc s

/-- $65 ADC n (R131). -/
def execAdcZp (n : Byte) (s : State) : Res State :=
  readInstr (.zp n) adc s

/-- $69 ADC #n (R131). -/
def execAdcImm (n : Byte) (s : State) : Res State :=
  readInstr (.imm n) adc s

/-- $6D ADC addr (R131). -/
def execAdcAbs (addr : Word) (s : State) : Res State :=
  readInstr (.abs addr) adc s

/-- $71 ADC (n),Y (R131). -/
def execAdcIzy (n : Byte) (s : State) : Res State :=
  readInstr (.izy n) adc s

/-- $75 ADC n,X (R131). -/
def execAdcZpx (n : Byte) (s : State) : Res State :=
  readInstr (.zpx n) adc s

/-- $79 ADC addr,Y (R131). -/
def execAdcAby (addr : Word) (s : State) : Res State :=
  readInstr (.aby addr) adc s

/-- $7D ADC addr,X (R131). -/
def execAdcAbx (addr : Word) (s : State) : Res State :=
  readInstr (.abx addr) adc s

/-- $E1 SBC (n,X) (R132). -/
def execSbcIzx (n : Byte) (s : State) : Res State :=
  readInstr (.izx n) sbc s

/-- $E5 SBC n (R132). -/
def execSbcZp (n : Byte) (s : State) : Res State :=
  readInstr (.zp n) sbc s

/-- $E9 SBC #n (R132). -/
def execSbcImm (n : Byte) (s : State) : Res State :=
  readInstr (.imm n) sbc s

/-- $ED SBC addr (R132). -/
def execSbcAbs (addr : Word) (s : State) : Res State :=
  readInstr (.abs addr) sbc s

/-- $F1 SBC (n),Y (R132). -/
def execSbcIzy (n : Byte) (s : State) : Res State :=
  readInstr (.izy n) sbc s

/-- $F5 SBC n,X (R132). -/
def execSbcZpx (n : Byte) (s : State) : Res State :=
  readInstr (.zpx n) sbc s

/-- $F9 SBC addr,Y (R132). -/
def execSbcAby (addr : Word) (s : State) : Res State :=
  readInstr (.aby addr) sbc s

/-- $FD SBC addr,X (R132). -/
def execSbcAbx (addr : Word) (s : State) : Res State :=
  readInstr (.abx addr) sbc s

/-- $21 AND (n,X) (R133). -/
def execAndIzx (n : Byte) (s : State) : Res State :=
  readInstr (.izx n) andA s

/-- $25 AND n (R133). -/
def execAndZp (n : Byte) (s : State) : Res State :=
  readInstr (.zp n) andA s

/-- $29 AND #n (R133). -/
def execAndImm (n : Byte) (s : State) : Res State :=
  readInstr (.imm n) andA s

/-- $2D AND addr (R133). -/
def execAndAbs (addr : Word) (s : State) : Res State :=
  readInstr (.abs addr) andA s

/-- $31 AND (n),Y (R133). -/
def execAndIzy (n : Byte) (s : State) : Res State :=
  readInstr (.izy n) andA s

/-- $35 AND n,X (R133). -/
def execAndZpx (n : Byte) (s : State) : Res State :=
  readInstr (.zpx n) andA s

/-- $39 AND addr,Y (R133). -/
def execAndAby (addr : Word) (s : State) : Res State :=
  readInstr (.aby addr) andA s

/-- $3D AND addr,X (R133). -/
def execAndAbx (addr : Word) (s : State) : Res State :=
  readInstr (.abx addr) andA s

/-- $01 ORA (n,X) (R134). -/
def execOraIzx (n : Byte) (s : State) : Res State :=
  readInstr (.izx n) oraA s

/-- $05 ORA n (R134). -/
def execOraZp (n : Byte) (s : State) : Res State :=
  readInstr (.zp n) oraA s

/-- $09 ORA #n (R134). -/
def execOraImm (n : Byte) (s : State) : Res State :=
  readInstr (.imm n) oraA s

/-- $0D ORA addr (R134). -/
def execOraAbs (addr : Word) (s : State) : Res State :=
  readInstr (.abs addr) oraA s

/-- $11 ORA (n),Y (R134). -/
def execOraIzy (n : Byte) (s : State) : Res State :=
  readInstr (.izy n) oraA s

/-- $15 ORA n,X (R134). -/
def execOraZpx (n : Byte) (s : State) : Res State :=
  readInstr (.zpx n) oraA s

/-- $19 ORA addr,Y (R134). -/
def execOraAby (addr : Word) (s : State) : Res State :=
  readInstr (.aby addr) oraA s

/-- $1D ORA addr,X (R134). -/
def execOraAbx (addr : Word) (s : State) : Res State :=
  readInstr (.abx addr) oraA s

/-- $41 EOR (n,X) (R135). -/
def execEorIzx (n : Byte) (s : State) : Res State :=
  readInstr (.izx n) eorA s

/-- $45 EOR n (R135). -/
def execEorZp (n : Byte) (s : State) : Res State :=
  readInstr (.zp n) eorA s

/-- $49 EOR #n (R135). -/
def execEorImm (n : Byte) (s : State) : Res State :=
  readInstr (.imm n) eorA s

/-- $4D EOR addr (R135). -/
def execEorAbs (addr : Word) (s : State) : Res State :=
  readInstr (.abs addr) eorA s

/-- $51 EOR (n),Y (R135). -/
def execEorIzy (n : Byte) (s : State) : Res State :=
  readInstr (.izy n) eorA s

/-- $55 EOR n,X (R135). -/
def execEorZpx (n : Byte) (s : State) : Res State :=
  readInstr (.zpx n) eorA s

/-- $59 EOR addr,Y (R135). -/
def execEorAby (addr : Word) (s : State) : Res State :=
  readInstr (.aby addr) eorA s

/-- $5D EOR addr,X (R135). -/
def execEorAbx (addr : Word) (s : State) : Res State :=
  readInstr (.abx addr) eorA s

/-- $24 BIT n (R136). -/
def execBitZp (n : Byte) (s : State) : Res State :=
  readInstr (.zp n) bitTest s

/-- $2C BIT addr (R136). -/
def execBitAbs (addr : Word) (s : State) : Res State :=
  readInstr (.abs addr) bitTest s

/-- $C1 CMP (n,X) (R138). -/
def execCmpIzx (n : Byte) (s : State) : Res State :=
  readInstr (.izx n) cmpA s

/-- $C5 CMP n (R138). -/
def execCmpZp (n : Byte) (s : State) : Res State :=
  readInstr (.zp n) cmpA s

/-- $C9 CMP #n (R138). -/
def execCmpImm (n : Byte) (s : State) : Res State :=
  readInstr (.imm n) cmpA s

/-- $CD CMP addr (R138). -/
def execCmpAbs (addr : Word) (s : State) : Res State :=
  readInstr (.abs addr) cmpA s

/-- $D1 CMP (n),Y (R138). -/
def execCmpIzy (n : Byte) (s : State) : Res State :=
  readInstr (.izy n) cmpA s

/-- $D5 CMP n,X (R138). -/
def execCmpZpx (n : Byte) (s : State) : Res State :=
  readInstr (.zpx n) cmpA s

/-- $D9 CMP addr,Y (R138). -/
def execCmpAby (addr : Word) (s : State) : Res State :=
  readInstr (.aby addr) cmpA s

/-- $DD CMP addr,X (R138). -/
def execCmpAbx (addr : Word) (s : State) : Res State :=
  readInstr (.abx addr) cmpA s

/-- $E0 CPX #n (R139). -/
def execCpxImm (n : Byte) (s : State) : Res State :=
  readInstr (.imm n) cmpX s

/-- $E4 CPX n (R139). -/
def execCpxZp (n : Byte) (s : State) : Res State :=
  readInstr (.zp n) cmpX s

/-- $EC CPX addr (R139). -/
def execCpxAbs (addr : Word) (s : State) : Res State :=
  readInstr (.abs addr) cmpX s

/-- $C0 CPY #n (R140). -/
def execCpyImm (n : Byte) (s : State) : Res State :=
  readInstr (.imm n) cmpY s

/-- $C4 CPY n (R140). -/
def execCpyZp (n : Byte) (s : State) : Res State :=
  readInstr (.zp n) cmpY s

/-- $CC CPY addr (R140). -/
def execCpyAbs (addr : Word) (s : State) : Res State :=
  readInstr (.abs addr) cmpY s

/-- $E6 INC n (R141). -/
def execIncZp (n : Byte) (s : State) : Res State :=
  rmwInstr (.zp n) incByte afterCount s

/-- $EE INC addr (R141). -/
def execIncAbs (addr : Word) (s : State) : Res State :=
  rmwInstr (.abs addr) incByte afterCount s

/-- $F6 INC n,X (R141). -/
def execIncZpx (n : Byte) (s : State) : Res State :=
  rmwInstr (.zpx n) incByte afterCount s

/-- $FE INC addr,X (R141). -/
def execIncAbx (addr : Word) (s : State) : Res State :=
  rmwInstr (.abx addr) incByte afterCount s

/-- $C6 DEC n (R142). -/
def execDecZp (n : Byte) (s : State) : Res State :=
  rmwInstr (.zp n) decByte afterCount s

/-- $CE DEC addr (R142). -/
def execDecAbs (addr : Word) (s : State) : Res State :=
  rmwInstr (.abs addr) decByte afterCount s

/-- $D6 DEC n,X (R142). -/
def execDecZpx (n : Byte) (s : State) : Res State :=
  rmwInstr (.zpx n) decByte afterCount s

/-- $DE DEC addr,X (R142). -/
def execDecAbx (addr : Word) (s : State) : Res State :=
  rmwInstr (.abx addr) decByte afterCount s

/-- $E8 INX (R143). -/
def execInx (s : State) : Res State :=
  impliedInstr 2 (fun t => setNZ (t.x + 1) { t with x := t.x + 1 }) s

/-- $C8 INY (R144). -/
def execIny (s : State) : Res State :=
  impliedInstr 2 (fun t => setNZ (t.y + 1) { t with y := t.y + 1 }) s

/-- $CA DEX (R145). -/
def execDex (s : State) : Res State :=
  impliedInstr 2 (fun t => setNZ (t.x - 1) { t with x := t.x - 1 }) s

/-- $88 DEY (R146). -/
def execDey (s : State) : Res State :=
  impliedInstr 2 (fun t => setNZ (t.y - 1) { t with y := t.y - 1 }) s

end Sys2Proof.Machine
end

