-- ==== Sys2Proof/Machine/Shift.lean ====
section
/-! DEFINITION. Shifts and rotates (spec 43). One meaning per opcode, over the shared operations of
Operands.lean and of this file. -/

namespace Sys2Proof.Machine

/-- `r = (v << 1) & $FF` (R160). -/
def aslByte (b : Byte) (_ : Bool) : Byte := b <<< 1

/-- `r = v >> 1` (R161). -/
def lsrByte (b : Byte) (_ : Bool) : Byte := b >>> 1

/-- `r = ((v << 1) | c0) & $FF` (R162). -/
def rolByte (b : Byte) (c : Bool) : Byte := b <<< 1 ||| flagByte c

/-- `r = (v >> 1) | (c0 << 7)` (R163). -/
def rorByte (b : Byte) (c : Bool) : Byte := b >>> 1 ||| flagByte c <<< 7

/-- `C <- v[7]; SetNZ(r)`, after ASL and ROL (R160, R162). -/
def afterAsl (b r : Byte) (s : State) : State := setNZ r { s with c := bit 7 b }

/-- `C <- v[0]; SetNZ(r)`, after LSR and ROR (R161, R163). -/
def afterLsr (b r : Byte) (s : State) : State := setNZ r { s with c := bit 0 b }

/-- $06 ASL n (R160). -/
def execAslZp (n : Byte) (s : State) : Res State :=
  rmwInstr (.zp n) aslByte afterAsl s

/-- $0A ASL A (R160). -/
def execAslAcc (s : State) : Res State :=
  accInstr aslByte afterAsl s

/-- $0E ASL addr (R160). -/
def execAslAbs (addr : Word) (s : State) : Res State :=
  rmwInstr (.abs addr) aslByte afterAsl s

/-- $16 ASL n,X (R160). -/
def execAslZpx (n : Byte) (s : State) : Res State :=
  rmwInstr (.zpx n) aslByte afterAsl s

/-- $1E ASL addr,X (R160). -/
def execAslAbx (addr : Word) (s : State) : Res State :=
  rmwInstr (.abx addr) aslByte afterAsl s

/-- $46 LSR n (R161). -/
def execLsrZp (n : Byte) (s : State) : Res State :=
  rmwInstr (.zp n) lsrByte afterLsr s

/-- $4A LSR A (R161). -/
def execLsrAcc (s : State) : Res State :=
  accInstr lsrByte afterLsr s

/-- $4E LSR addr (R161). -/
def execLsrAbs (addr : Word) (s : State) : Res State :=
  rmwInstr (.abs addr) lsrByte afterLsr s

/-- $56 LSR n,X (R161). -/
def execLsrZpx (n : Byte) (s : State) : Res State :=
  rmwInstr (.zpx n) lsrByte afterLsr s

/-- $5E LSR addr,X (R161). -/
def execLsrAbx (addr : Word) (s : State) : Res State :=
  rmwInstr (.abx addr) lsrByte afterLsr s

/-- $26 ROL n (R162). -/
def execRolZp (n : Byte) (s : State) : Res State :=
  rmwInstr (.zp n) rolByte afterAsl s

/-- $2A ROL A (R162). -/
def execRolAcc (s : State) : Res State :=
  accInstr rolByte afterAsl s

/-- $2E ROL addr (R162). -/
def execRolAbs (addr : Word) (s : State) : Res State :=
  rmwInstr (.abs addr) rolByte afterAsl s

/-- $36 ROL n,X (R162). -/
def execRolZpx (n : Byte) (s : State) : Res State :=
  rmwInstr (.zpx n) rolByte afterAsl s

/-- $3E ROL addr,X (R162). -/
def execRolAbx (addr : Word) (s : State) : Res State :=
  rmwInstr (.abx addr) rolByte afterAsl s

/-- $66 ROR n (R163). -/
def execRorZp (n : Byte) (s : State) : Res State :=
  rmwInstr (.zp n) rorByte afterLsr s

/-- $6A ROR A (R163). -/
def execRorAcc (s : State) : Res State :=
  accInstr rorByte afterLsr s

/-- $6E ROR addr (R163). -/
def execRorAbs (addr : Word) (s : State) : Res State :=
  rmwInstr (.abs addr) rorByte afterLsr s

/-- $76 ROR n,X (R163). -/
def execRorZpx (n : Byte) (s : State) : Res State :=
  rmwInstr (.zpx n) rorByte afterLsr s

/-- $7E ROR addr,X (R163). -/
def execRorAbx (addr : Word) (s : State) : Res State :=
  rmwInstr (.abx addr) rorByte afterLsr s

end Sys2Proof.Machine
end

