-- ==== Sys2Proof/Machine/Combined.lean ====
section
/-! DEFINITION. The combined unofficial opcodes (46 R211-R218). One meaning per opcode, over the shared
operations of Operands.lean and of this file. -/

namespace Sys2Proof.Machine

/-- `C <- v[7]; A <- A | r; SetNZ(A)` (R211). -/
def afterSlo (b r : Byte) (s : State) : State := oraA r { s with c := bit 7 b }

/-- `C <- v[7]; A <- A & r; SetNZ(A)` (R212). -/
def afterRla (b r : Byte) (s : State) : State := andA r { s with c := bit 7 b }

/-- `C <- v[0]; A <- A ^ r; SetNZ(A)` (R213). -/
def afterSre (b r : Byte) (s : State) : State := eorA r { s with c := bit 0 b }

/-- `C <- v[0]; Add(r)`: the adder takes the carry the rotate produced (R214). -/
def afterRra (b r : Byte) (s : State) : State := addWithCarry r { s with c := bit 0 b }

/-- `Compare(A, r)` (R217). -/
def afterDcp (_ r : Byte) (s : State) : State := compareWith s.a r s

/-- `Add(~r & $FF)` (R218). -/
def afterIsc (_ r : Byte) (s : State) : State := addWithCarry (~~~r) s

/-- `A <- M; X <- M; SetNZ(M)` (R216). -/
def loadAX (m : Byte) (s : State) : State := setNZ m { s with a := m, x := m }

/-- $03 SLO (n,X) (R211). -/
def execSloIzx (n : Byte) (s : State) : Res State :=
  rmwInstr (.izx n) aslByte afterSlo s

/-- $07 SLO n (R211). -/
def execSloZp (n : Byte) (s : State) : Res State :=
  rmwInstr (.zp n) aslByte afterSlo s

/-- $0F SLO addr (R211). -/
def execSloAbs (addr : Word) (s : State) : Res State :=
  rmwInstr (.abs addr) aslByte afterSlo s

/-- $13 SLO (n),Y (R211). -/
def execSloIzy (n : Byte) (s : State) : Res State :=
  rmwInstr (.izy n) aslByte afterSlo s

/-- $17 SLO n,X (R211). -/
def execSloZpx (n : Byte) (s : State) : Res State :=
  rmwInstr (.zpx n) aslByte afterSlo s

/-- $1B SLO addr,Y (R211). -/
def execSloAby (addr : Word) (s : State) : Res State :=
  rmwInstr (.aby addr) aslByte afterSlo s

/-- $1F SLO addr,X (R211). -/
def execSloAbx (addr : Word) (s : State) : Res State :=
  rmwInstr (.abx addr) aslByte afterSlo s

/-- $23 RLA (n,X) (R212). -/
def execRlaIzx (n : Byte) (s : State) : Res State :=
  rmwInstr (.izx n) rolByte afterRla s

/-- $27 RLA n (R212). -/
def execRlaZp (n : Byte) (s : State) : Res State :=
  rmwInstr (.zp n) rolByte afterRla s

/-- $2F RLA addr (R212). -/
def execRlaAbs (addr : Word) (s : State) : Res State :=
  rmwInstr (.abs addr) rolByte afterRla s

/-- $33 RLA (n),Y (R212). -/
def execRlaIzy (n : Byte) (s : State) : Res State :=
  rmwInstr (.izy n) rolByte afterRla s

/-- $37 RLA n,X (R212). -/
def execRlaZpx (n : Byte) (s : State) : Res State :=
  rmwInstr (.zpx n) rolByte afterRla s

/-- $3B RLA addr,Y (R212). -/
def execRlaAby (addr : Word) (s : State) : Res State :=
  rmwInstr (.aby addr) rolByte afterRla s

/-- $3F RLA addr,X (R212). -/
def execRlaAbx (addr : Word) (s : State) : Res State :=
  rmwInstr (.abx addr) rolByte afterRla s

/-- $43 SRE (n,X) (R213). -/
def execSreIzx (n : Byte) (s : State) : Res State :=
  rmwInstr (.izx n) lsrByte afterSre s

/-- $47 SRE n (R213). -/
def execSreZp (n : Byte) (s : State) : Res State :=
  rmwInstr (.zp n) lsrByte afterSre s

/-- $4F SRE addr (R213). -/
def execSreAbs (addr : Word) (s : State) : Res State :=
  rmwInstr (.abs addr) lsrByte afterSre s

/-- $53 SRE (n),Y (R213). -/
def execSreIzy (n : Byte) (s : State) : Res State :=
  rmwInstr (.izy n) lsrByte afterSre s

/-- $57 SRE n,X (R213). -/
def execSreZpx (n : Byte) (s : State) : Res State :=
  rmwInstr (.zpx n) lsrByte afterSre s

/-- $5B SRE addr,Y (R213). -/
def execSreAby (addr : Word) (s : State) : Res State :=
  rmwInstr (.aby addr) lsrByte afterSre s

/-- $5F SRE addr,X (R213). -/
def execSreAbx (addr : Word) (s : State) : Res State :=
  rmwInstr (.abx addr) lsrByte afterSre s

/-- $63 RRA (n,X) (R214). -/
def execRraIzx (n : Byte) (s : State) : Res State :=
  rmwInstr (.izx n) rorByte afterRra s

/-- $67 RRA n (R214). -/
def execRraZp (n : Byte) (s : State) : Res State :=
  rmwInstr (.zp n) rorByte afterRra s

/-- $6F RRA addr (R214). -/
def execRraAbs (addr : Word) (s : State) : Res State :=
  rmwInstr (.abs addr) rorByte afterRra s

/-- $73 RRA (n),Y (R214). -/
def execRraIzy (n : Byte) (s : State) : Res State :=
  rmwInstr (.izy n) rorByte afterRra s

/-- $77 RRA n,X (R214). -/
def execRraZpx (n : Byte) (s : State) : Res State :=
  rmwInstr (.zpx n) rorByte afterRra s

/-- $7B RRA addr,Y (R214). -/
def execRraAby (addr : Word) (s : State) : Res State :=
  rmwInstr (.aby addr) rorByte afterRra s

/-- $7F RRA addr,X (R214). -/
def execRraAbx (addr : Word) (s : State) : Res State :=
  rmwInstr (.abx addr) rorByte afterRra s

/-- $83 SAX (n,X) (R215). -/
def execSaxIzx (n : Byte) (s : State) : Res State :=
  storeInstr (.izx n) (fun t => t.a &&& t.x) s

/-- $87 SAX n (R215). -/
def execSaxZp (n : Byte) (s : State) : Res State :=
  storeInstr (.zp n) (fun t => t.a &&& t.x) s

/-- $8F SAX addr (R215). -/
def execSaxAbs (addr : Word) (s : State) : Res State :=
  storeInstr (.abs addr) (fun t => t.a &&& t.x) s

/-- $97 SAX n,Y (R215). -/
def execSaxZpy (n : Byte) (s : State) : Res State :=
  storeInstr (.zpy n) (fun t => t.a &&& t.x) s

/-- $A3 LAX (n,X) (R216). -/
def execLaxIzx (n : Byte) (s : State) : Res State :=
  readInstr (.izx n) loadAX s

/-- $A7 LAX n (R216). -/
def execLaxZp (n : Byte) (s : State) : Res State :=
  readInstr (.zp n) loadAX s

/-- $AF LAX addr (R216). -/
def execLaxAbs (addr : Word) (s : State) : Res State :=
  readInstr (.abs addr) loadAX s

/-- $B3 LAX (n),Y (R216). -/
def execLaxIzy (n : Byte) (s : State) : Res State :=
  readInstr (.izy n) loadAX s

/-- $B7 LAX n,Y (R216). -/
def execLaxZpy (n : Byte) (s : State) : Res State :=
  readInstr (.zpy n) loadAX s

/-- $BF LAX addr,Y (R216). -/
def execLaxAby (addr : Word) (s : State) : Res State :=
  readInstr (.aby addr) loadAX s

/-- $C3 DCP (n,X) (R217). -/
def execDcpIzx (n : Byte) (s : State) : Res State :=
  rmwInstr (.izx n) decByte afterDcp s

/-- $C7 DCP n (R217). -/
def execDcpZp (n : Byte) (s : State) : Res State :=
  rmwInstr (.zp n) decByte afterDcp s

/-- $CF DCP addr (R217). -/
def execDcpAbs (addr : Word) (s : State) : Res State :=
  rmwInstr (.abs addr) decByte afterDcp s

/-- $D3 DCP (n),Y (R217). -/
def execDcpIzy (n : Byte) (s : State) : Res State :=
  rmwInstr (.izy n) decByte afterDcp s

/-- $D7 DCP n,X (R217). -/
def execDcpZpx (n : Byte) (s : State) : Res State :=
  rmwInstr (.zpx n) decByte afterDcp s

/-- $DB DCP addr,Y (R217). -/
def execDcpAby (addr : Word) (s : State) : Res State :=
  rmwInstr (.aby addr) decByte afterDcp s

/-- $DF DCP addr,X (R217). -/
def execDcpAbx (addr : Word) (s : State) : Res State :=
  rmwInstr (.abx addr) decByte afterDcp s

/-- $E3 ISC (n,X) (R218). -/
def execIscIzx (n : Byte) (s : State) : Res State :=
  rmwInstr (.izx n) incByte afterIsc s

/-- $E7 ISC n (R218). -/
def execIscZp (n : Byte) (s : State) : Res State :=
  rmwInstr (.zp n) incByte afterIsc s

/-- $EF ISC addr (R218). -/
def execIscAbs (addr : Word) (s : State) : Res State :=
  rmwInstr (.abs addr) incByte afterIsc s

/-- $F3 ISC (n),Y (R218). -/
def execIscIzy (n : Byte) (s : State) : Res State :=
  rmwInstr (.izy n) incByte afterIsc s

/-- $F7 ISC n,X (R218). -/
def execIscZpx (n : Byte) (s : State) : Res State :=
  rmwInstr (.zpx n) incByte afterIsc s

/-- $FB ISC addr,Y (R218). -/
def execIscAby (addr : Word) (s : State) : Res State :=
  rmwInstr (.aby addr) incByte afterIsc s

/-- $FF ISC addr,X (R218). -/
def execIscAbx (addr : Word) (s : State) : Res State :=
  rmwInstr (.abx addr) incByte afterIsc s

end Sys2Proof.Machine
end

