-- ==== Sys2Proof/Machine/Control.lean ====
section
/-! DEFINITION. Branches, jumps, subroutines, BRK and RTI (spec 44). One meaning per opcode, over the shared
operations of Operands.lean and of this file. -/

namespace Sys2Proof.Machine

/-- A branch's target: the next instruction's address plus the offset (40 R102). -/
def branchTarget (next : Word) (n : Byte) : Word := next + sext16 n

/-- The cycles a branch adds to its base of 2: none, 1, or 2 into another page (R170). -/
def branchExtra (taken : Bool) (next : Word) (n : Byte) : Nat :=
  if taken then 1 + if hiByte next != hiByte (branchTarget next n) then 1 else 0 else 0

/-- A conditional branch (R170). -/
def branchInstr (cond : Bool) (n : Byte) (s : State) : Res State :=
  let start := advance 2 s
  .next (charge (2 + branchExtra cond start.pc n)
    (if cond then { start with pc := branchTarget start.pc n } else start))

/-- `PC <- {hh, ll}` (R179). -/
def jmpInstr (addr : Word) (s : State) : Res State :=
  .next (charge 3 { advance 3 s with pc := addr })

/-- `PC <- EA` of the indirect mode, whose high byte's address wraps in the pointer's page (R180, 40 R99). -/
def jmpIndInstr (addr : Word) (s : State) : Res State :=
  andThen (memRead addr (advance 3 s)) fun lo =>
  andThen (memRead (mkWord (hiByte addr) (loByte addr + 1)) lo.2) fun hi =>
  .next (charge 5 { hi.2 with pc := mkWord hi.1 lo.1 })

/-- Push the address of the JSR's last byte, then jump (R181). -/
def jsrInstr (addr : Word) (s : State) : Res State :=
  let start := advance 3 s
  .next (charge 6 { push16 (start.pc - 1) start with pc := addr })

/-- `PC <- {hi, lo} + 1` (R182). -/
def returnFromSubroutine (s : State) : State := { afterPull16 s with pc := pulled16 s + 1 }

/-- Take the exception through $FFFE, the return address skipping the padding byte (R183). -/
def brkInstr (s : State) : Res State :=
  let start := advance 1 s
  andThen (takeException irqVector (start.pc + 1) true start) fun t => .next (charge 7 t)

/-- $10 BPL n (R171). -/
def execBpl (n : Byte) (s : State) : Res State :=
  branchInstr (!s.n) n s

/-- $30 BMI n (R172). -/
def execBmi (n : Byte) (s : State) : Res State :=
  branchInstr s.n n s

/-- $50 BVC n (R173). -/
def execBvc (n : Byte) (s : State) : Res State :=
  branchInstr (!s.v) n s

/-- $70 BVS n (R174). -/
def execBvs (n : Byte) (s : State) : Res State :=
  branchInstr s.v n s

/-- $90 BCC n (R175). -/
def execBcc (n : Byte) (s : State) : Res State :=
  branchInstr (!s.c) n s

/-- $B0 BCS n (R176). -/
def execBcs (n : Byte) (s : State) : Res State :=
  branchInstr s.c n s

/-- $D0 BNE n (R177). -/
def execBne (n : Byte) (s : State) : Res State :=
  branchInstr (!s.z) n s

/-- $F0 BEQ n (R178). -/
def execBeq (n : Byte) (s : State) : Res State :=
  branchInstr s.z n s

/-- $4C JMP addr (R179). -/
def execJmpAbs (addr : Word) (s : State) : Res State :=
  jmpInstr addr s

/-- $6C JMP (addr) (R180). -/
def execJmpInd (addr : Word) (s : State) : Res State :=
  jmpIndInstr addr s

/-- $20 JSR addr (R181). -/
def execJsrAbs (addr : Word) (s : State) : Res State :=
  jsrInstr addr s

/-- $60 RTS (R182). -/
def execRts (s : State) : Res State :=
  impliedInstr 6 returnFromSubroutine s

/-- $00 BRK (R183). -/
def execBrk (s : State) : Res State :=
  brkInstr s

/-- $40 RTI (R184). -/
def execRti (s : State) : Res State :=
  impliedInstr 6 returnFromException s

end Sys2Proof.Machine
end

