-- ==== Sys2Proof/Machine/LoadStore.lean ====
section
/-! DEFINITION. Loads and stores (spec 41). One meaning per opcode, over the shared operations of
Operands.lean and of this file. -/

namespace Sys2Proof.Machine

/-- `A <- M; SetNZ(A)` (R110). -/
def loadA (m : Byte) (s : State) : State := setNZ m { s with a := m }

/-- `X <- M; SetNZ(X)` (R111). -/
def loadX (m : Byte) (s : State) : State := setNZ m { s with x := m }

/-- `Y <- M; SetNZ(Y)` (R112). -/
def loadY (m : Byte) (s : State) : State := setNZ m { s with y := m }

/-- $A1 LDA (n,X) (R110). -/
def execLdaIzx (n : Byte) (s : State) : Res State :=
  readInstr (.izx n) loadA s

/-- $A5 LDA n (R110). -/
def execLdaZp (n : Byte) (s : State) : Res State :=
  readInstr (.zp n) loadA s

/-- $A9 LDA #n (R110). -/
def execLdaImm (n : Byte) (s : State) : Res State :=
  readInstr (.imm n) loadA s

/-- $AD LDA addr (R110). -/
def execLdaAbs (addr : Word) (s : State) : Res State :=
  readInstr (.abs addr) loadA s

/-- $B1 LDA (n),Y (R110). -/
def execLdaIzy (n : Byte) (s : State) : Res State :=
  readInstr (.izy n) loadA s

/-- $B5 LDA n,X (R110). -/
def execLdaZpx (n : Byte) (s : State) : Res State :=
  readInstr (.zpx n) loadA s

/-- $B9 LDA addr,Y (R110). -/
def execLdaAby (addr : Word) (s : State) : Res State :=
  readInstr (.aby addr) loadA s

/-- $BD LDA addr,X (R110). -/
def execLdaAbx (addr : Word) (s : State) : Res State :=
  readInstr (.abx addr) loadA s

/-- $A2 LDX #n (R111). -/
def execLdxImm (n : Byte) (s : State) : Res State :=
  readInstr (.imm n) loadX s

/-- $A6 LDX n (R111). -/
def execLdxZp (n : Byte) (s : State) : Res State :=
  readInstr (.zp n) loadX s

/-- $AE LDX addr (R111). -/
def execLdxAbs (addr : Word) (s : State) : Res State :=
  readInstr (.abs addr) loadX s

/-- $B6 LDX n,Y (R111). -/
def execLdxZpy (n : Byte) (s : State) : Res State :=
  readInstr (.zpy n) loadX s

/-- $BE LDX addr,Y (R111). -/
def execLdxAby (addr : Word) (s : State) : Res State :=
  readInstr (.aby addr) loadX s

/-- $A0 LDY #n (R112). -/
def execLdyImm (n : Byte) (s : State) : Res State :=
  readInstr (.imm n) loadY s

/-- $A4 LDY n (R112). -/
def execLdyZp (n : Byte) (s : State) : Res State :=
  readInstr (.zp n) loadY s

/-- $AC LDY addr (R112). -/
def execLdyAbs (addr : Word) (s : State) : Res State :=
  readInstr (.abs addr) loadY s

/-- $B4 LDY n,X (R112). -/
def execLdyZpx (n : Byte) (s : State) : Res State :=
  readInstr (.zpx n) loadY s

/-- $BC LDY addr,X (R112). -/
def execLdyAbx (addr : Word) (s : State) : Res State :=
  readInstr (.abx addr) loadY s

/-- $81 STA (n,X) (R113). -/
def execStaIzx (n : Byte) (s : State) : Res State :=
  storeInstr (.izx n) (fun t => t.a) s

/-- $85 STA n (R113). -/
def execStaZp (n : Byte) (s : State) : Res State :=
  storeInstr (.zp n) (fun t => t.a) s

/-- $8D STA addr (R113). -/
def execStaAbs (addr : Word) (s : State) : Res State :=
  storeInstr (.abs addr) (fun t => t.a) s

/-- $91 STA (n),Y (R113). -/
def execStaIzy (n : Byte) (s : State) : Res State :=
  storeInstr (.izy n) (fun t => t.a) s

/-- $95 STA n,X (R113). -/
def execStaZpx (n : Byte) (s : State) : Res State :=
  storeInstr (.zpx n) (fun t => t.a) s

/-- $99 STA addr,Y (R113). -/
def execStaAby (addr : Word) (s : State) : Res State :=
  storeInstr (.aby addr) (fun t => t.a) s

/-- $9D STA addr,X (R113). -/
def execStaAbx (addr : Word) (s : State) : Res State :=
  storeInstr (.abx addr) (fun t => t.a) s

/-- $86 STX n (R114). -/
def execStxZp (n : Byte) (s : State) : Res State :=
  storeInstr (.zp n) (fun t => t.x) s

/-- $8E STX addr (R114). -/
def execStxAbs (addr : Word) (s : State) : Res State :=
  storeInstr (.abs addr) (fun t => t.x) s

/-- $96 STX n,Y (R114). -/
def execStxZpy (n : Byte) (s : State) : Res State :=
  storeInstr (.zpy n) (fun t => t.x) s

/-- $84 STY n (R115). -/
def execStyZp (n : Byte) (s : State) : Res State :=
  storeInstr (.zp n) (fun t => t.y) s

/-- $8C STY addr (R115). -/
def execStyAbs (addr : Word) (s : State) : Res State :=
  storeInstr (.abs addr) (fun t => t.y) s

/-- $94 STY n,X (R115). -/
def execStyZpx (n : Byte) (s : State) : Res State :=
  storeInstr (.zpx n) (fun t => t.y) s

end Sys2Proof.Machine
end

