-- ==== Sys2Proof/Machine/Nop.lean ====
section
/-! DEFINITION. NOP, official and unofficial (45 R201, 46 R231-R233). One meaning per opcode, over the
shared operations of Operands.lean and of this file. -/

namespace Sys2Proof.Machine

/-- The operand is read, with the read's side effects, and discarded (R232, R233). -/
def discard (_ : Byte) (s : State) : State := s

/-- $04 NOP n (R233). -/
def execNopZp04 (n : Byte) (s : State) : Res State :=
  readInstr (.zp n) discard s

/-- $0C NOP addr (R233). -/
def execNopAbs0C (addr : Word) (s : State) : Res State :=
  readInstr (.abs addr) discard s

/-- $14 NOP n,X (R233). -/
def execNopZpx14 (n : Byte) (s : State) : Res State :=
  readInstr (.zpx n) discard s

/-- $1A NOP (R231). -/
def execNopImp1A (s : State) : Res State :=
  impliedInstr 2 (fun t => t) s

/-- $1C NOP addr,X (R233). -/
def execNopAbx1C (addr : Word) (s : State) : Res State :=
  readInstr (.abx addr) discard s

/-- $34 NOP n,X (R233). -/
def execNopZpx34 (n : Byte) (s : State) : Res State :=
  readInstr (.zpx n) discard s

/-- $3A NOP (R231). -/
def execNopImp3A (s : State) : Res State :=
  impliedInstr 2 (fun t => t) s

/-- $3C NOP addr,X (R233). -/
def execNopAbx3C (addr : Word) (s : State) : Res State :=
  readInstr (.abx addr) discard s

/-- $44 NOP n (R233). -/
def execNopZp44 (n : Byte) (s : State) : Res State :=
  readInstr (.zp n) discard s

/-- $54 NOP n,X (R233). -/
def execNopZpx54 (n : Byte) (s : State) : Res State :=
  readInstr (.zpx n) discard s

/-- $5A NOP (R231). -/
def execNopImp5A (s : State) : Res State :=
  impliedInstr 2 (fun t => t) s

/-- $5C NOP addr,X (R233). -/
def execNopAbx5C (addr : Word) (s : State) : Res State :=
  readInstr (.abx addr) discard s

/-- $64 NOP n (R233). -/
def execNopZp64 (n : Byte) (s : State) : Res State :=
  readInstr (.zp n) discard s

/-- $74 NOP n,X (R233). -/
def execNopZpx74 (n : Byte) (s : State) : Res State :=
  readInstr (.zpx n) discard s

/-- $7A NOP (R231). -/
def execNopImp7A (s : State) : Res State :=
  impliedInstr 2 (fun t => t) s

/-- $7C NOP addr,X (R233). -/
def execNopAbx7C (addr : Word) (s : State) : Res State :=
  readInstr (.abx addr) discard s

/-- $80 NOP #n (R232). -/
def execNopImm80 (n : Byte) (s : State) : Res State :=
  readInstr (.imm n) discard s

/-- $82 NOP #n (R232). -/
def execNopImm82 (n : Byte) (s : State) : Res State :=
  readInstr (.imm n) discard s

/-- $89 NOP #n (R232). -/
def execNopImm89 (n : Byte) (s : State) : Res State :=
  readInstr (.imm n) discard s

/-- $C2 NOP #n (R232). -/
def execNopImmC2 (n : Byte) (s : State) : Res State :=
  readInstr (.imm n) discard s

/-- $D4 NOP n,X (R233). -/
def execNopZpxD4 (n : Byte) (s : State) : Res State :=
  readInstr (.zpx n) discard s

/-- $DA NOP (R231). -/
def execNopImpDA (s : State) : Res State :=
  impliedInstr 2 (fun t => t) s

/-- $DC NOP addr,X (R233). -/
def execNopAbxDC (addr : Word) (s : State) : Res State :=
  readInstr (.abx addr) discard s

/-- $E2 NOP #n (R232). -/
def execNopImmE2 (n : Byte) (s : State) : Res State :=
  readInstr (.imm n) discard s

/-- $EA NOP (R201). -/
def execNop (s : State) : Res State :=
  impliedInstr 2 (fun t => t) s

/-- $F4 NOP n,X (R233). -/
def execNopZpxF4 (n : Byte) (s : State) : Res State :=
  readInstr (.zpx n) discard s

/-- $FA NOP (R231). -/
def execNopImpFA (s : State) : Res State :=
  impliedInstr 2 (fun t => t) s

/-- $FC NOP addr,X (R233). -/
def execNopAbxFC (addr : Word) (s : State) : Res State :=
  readInstr (.abx addr) discard s

end Sys2Proof.Machine
end

