-- ==== Sys2Proof/Machine/Stack.lean ====
section
/-! DEFINITION. Stack and flag instructions (spec 45). One meaning per opcode, over the shared operations of
Operands.lean and of this file. -/

namespace Sys2Proof.Machine

/-- `A <- Pull(); SetNZ(A)` (R192). -/
def pullA (s : State) : State := setNZ (pulled s) { afterPull s with a := pulled s }

/-- $48 PHA (R190). -/
def execPha (s : State) : Res State :=
  impliedInstr 3 (fun t => push t.a t) s

/-- $08 PHP (R191). -/
def execPhp (s : State) : Res State :=
  impliedInstr 3 (fun t => push (pack true t) t) s

/-- $68 PLA (R192). -/
def execPla (s : State) : Res State :=
  impliedInstr 4 pullA s

/-- $28 PLP (R193). -/
def execPlp (s : State) : Res State :=
  impliedInstr 4 (fun t => afterPull (unpack (pulled t) t)) s

/-- $18 CLC (R194). -/
def execClc (s : State) : Res State :=
  impliedInstr 2 (fun t => { t with c := false }) s

/-- $38 SEC (R195). -/
def execSec (s : State) : Res State :=
  impliedInstr 2 (fun t => { t with c := true }) s

/-- $58 CLI (R196). -/
def execCli (s : State) : Res State :=
  impliedInstr 2 (fun t => { t with i := false }) s

/-- $78 SEI (R197). -/
def execSei (s : State) : Res State :=
  impliedInstr 2 (fun t => { t with i := true }) s

/-- $D8 CLD (R198). -/
def execCld (s : State) : Res State :=
  impliedInstr 2 (fun t => { t with d := false }) s

/-- $F8 SED (R199). -/
def execSed (s : State) : Res State :=
  impliedInstr 2 (fun t => { t with d := true }) s

/-- $B8 CLV (R200). -/
def execClv (s : State) : Res State :=
  impliedInstr 2 (fun t => { t with v := false }) s

end Sys2Proof.Machine
end

