-- ==== Sys2Proof/Machine/Transfer.lean ====
section
/-! DEFINITION. Register transfers (spec 41). One meaning per opcode, over the shared operations of
Operands.lean and of this file. -/

namespace Sys2Proof.Machine

/-- $AA TAX (R116). -/
def execTax (s : State) : Res State :=
  impliedInstr 2 (fun t => setNZ t.a { t with x := t.a }) s

/-- $A8 TAY (R117). -/
def execTay (s : State) : Res State :=
  impliedInstr 2 (fun t => setNZ t.a { t with y := t.a }) s

/-- $8A TXA (R118). -/
def execTxa (s : State) : Res State :=
  impliedInstr 2 (fun t => setNZ t.x { t with a := t.x }) s

/-- $98 TYA (R119). -/
def execTya (s : State) : Res State :=
  impliedInstr 2 (fun t => setNZ t.y { t with a := t.y }) s

/-- $BA TSX (R120). -/
def execTsx (s : State) : Res State :=
  impliedInstr 2 (fun t => setNZ t.sp { t with x := t.sp }) s

/-- $9A TXS (R121). -/
def execTxs (s : State) : Res State :=
  impliedInstr 2 (fun t => { t with sp := t.x }) s

end Sys2Proof.Machine
end

