-- ==== Sys2Proof/Machine/Unstable.lean ====
section
/-! DEFINITION. The immediate combinations, the unstable opcodes, LAS, USBC and JAM (46 R219-R230, R234).
One meaning per opcode, over the shared operations of Operands.lean and of this file. -/

namespace Sys2Proof.Machine

/-- `A <- A & n; SetNZ(A); C <- N` (R219). -/
def anc (m : Byte) (s : State) : State := { andA m s with c := bit 7 (s.a &&& m) }

/-- `t = A & n; C <- t[0]; A <- t >> 1; SetNZ(A)` (R220). -/
def alr (m : Byte) (s : State) : State :=
  let t := s.a &&& m
  setNZ (t >>> 1) { s with c := bit 0 t, a := t >>> 1 }

/-- `A`'s new value in ARR: `t = A & n; r = (t >> 1) | (C << 7)` (R221). -/
def arrByte (a m : Byte) (c : Bool) : Byte := rorByte (a &&& m) c

/-- `A <- r; SetNZ(A); C <- r[6]; V <- r[6] ^ r[5]` (R221). -/
def arr (m : Byte) (s : State) : State :=
  let r := arrByte s.a m s.c
  setNZ r { s with a := r, c := bit 6 r, v := bit 6 r ^^ bit 5 r }

/-- `t = A & X; C <- (t >= n); X <- t - n; SetNZ(X)` (R224). -/
def sbx (m : Byte) (s : State) : State :=
  let t := s.a &&& s.x
  setNZ (t - m) { s with c := decide (m ≤ t), x := t - m }

/-- `t = M & S; A <- t; X <- t; S <- t; SetNZ(t)` (R229). -/
def las (m : Byte) (s : State) : State :=
  let t := m &&& s.sp
  setNZ t { s with a := t, x := t, sp := t }

/-- `A <- (A | ANE_MAGIC) & X & n; SetNZ(A)` (R222). -/
def ane (magic : Byte) (m : Byte) (s : State) : State :=
  let r := (s.a ||| magic) &&& s.x &&& m
  setNZ r { s with a := r }

/-- `t = (A | LXA_MAGIC) & n; A <- t; X <- t; SetNZ(t)` (R223). -/
def lxa (magic : Byte) (m : Byte) (s : State) : State :=
  let t := (s.a ||| magic) &&& m
  setNZ t { s with a := t, x := t }

/-- ANE: refused while its constant is OPEN (R222). -/
def aneInstr (magic : Option Byte) (n : Byte) (s : State) : Res State :=
  match magic with
  | none => .refused (.openParameter "ANE")
  | some f => readInstr (.imm n) (ane f) s

/-- LXA: refused while its constant is OPEN (R223). -/
def lxaInstr (magic : Option Byte) (n : Byte) (s : State) : Res State :=
  match magic with
  | none => .refused (.openParameter "LXA")
  | some f => readInstr (.imm n) (lxa f) s

/-- `H + 1`, `H` the high byte of the address before indexing (R225). -/
def shHigh (m : Mode) (s : State) : Byte := hiByte (baseAddr m s) + 1

/-- Where an unstable store writes: a page crossing replaces the address's high byte by the value (R225). -/
def shAddr (m : Mode) (b : Byte) (s : State) : Word :=
  if pageCross m s then mkWord b (loByte (effAddr m s)) else effAddr m s

/-- SHA, SHX, SHY and TAS: `pre` is TAS's write of S, `reg` the register part of the stored value
(R225-R228). -/
def shInstr (p : Config.ShPolicy) (mnemonic : String) (m : Mode) (pre : State → State)
    (reg : State → Byte) (s : State) : Res State :=
  match p with
  | .refuse => .refused (.shPolicy mnemonic)
  | .standard =>
    let start := pre (advance (modeLength m) s)
    let b := reg start &&& shHigh m start
    let tw := writeCycle (storeCost m) start
    andThen (dummyRead Config.dummyAccess true m start) fun s1 =>
    andThen (memWrite tw (shAddr m b start) b s1) fun s2 =>
    .next (charge (storeCost m) s2)

/-- JAM: an opcode of `JAM_SET` ends its own tick with `Lockup`, in the state it leaves (R234, 60 R250, R261).
No source gives an opcode that another `JAM_SET` leaves out a meaning (decision D2). -/
def jamInstr (jamSet : List Byte) (op : Byte) (s : State) : Res State :=
  if jamSet.contains op then .fault (.lockup (lockUp s)) else .refused (.openParameter "JAM")

/-- $0B ANC #n (R219). -/
def execAnc0B (n : Byte) (s : State) : Res State :=
  readInstr (.imm n) anc s

/-- $2B ANC #n (R219). -/
def execAnc2B (n : Byte) (s : State) : Res State :=
  readInstr (.imm n) anc s

/-- $4B ALR #n (R220). -/
def execAlrImm (n : Byte) (s : State) : Res State :=
  readInstr (.imm n) alr s

/-- $6B ARR #n (R221). -/
def execArrImm (n : Byte) (s : State) : Res State :=
  readInstr (.imm n) arr s

/-- $8B ANE #n (R222). -/
def execAneImm (n : Byte) (s : State) : Res State :=
  aneInstr Config.aneMagic n s

/-- $AB LXA #n (R223). -/
def execLxaImm (n : Byte) (s : State) : Res State :=
  lxaInstr Config.lxaMagic n s

/-- $CB SBX #n (R224). -/
def execSbxImm (n : Byte) (s : State) : Res State :=
  readInstr (.imm n) sbx s

/-- $93 SHA (n),Y (R225). -/
def execShaIzy (n : Byte) (s : State) : Res State :=
  shInstr Config.shPolicy "SHA" (.izy n) (fun t => t) (fun t => t.a &&& t.x) s

/-- $9F SHA addr,Y (R225). -/
def execShaAby (addr : Word) (s : State) : Res State :=
  shInstr Config.shPolicy "SHA" (.aby addr) (fun t => t) (fun t => t.a &&& t.x) s

/-- $9E SHX addr,Y (R226). -/
def execShxAby (addr : Word) (s : State) : Res State :=
  shInstr Config.shPolicy "SHX" (.aby addr) (fun t => t) (fun t => t.x) s

/-- $9C SHY addr,X (R227). -/
def execShyAbx (addr : Word) (s : State) : Res State :=
  shInstr Config.shPolicy "SHY" (.abx addr) (fun t => t) (fun t => t.y) s

/-- $9B TAS addr,Y (R228). -/
def execTasAby (addr : Word) (s : State) : Res State :=
  shInstr Config.shPolicy "TAS" (.aby addr) (fun t => { t with sp := t.a &&& t.x }) (fun t => t.sp) s

/-- $BB LAS addr,Y (R229). -/
def execLasAby (addr : Word) (s : State) : Res State :=
  readInstr (.aby addr) las s

/-- $EB USBC #n (R230). -/
def execUsbcImm (n : Byte) (s : State) : Res State :=
  readInstr (.imm n) sbc s

/-- $02 JAM (R234). -/
def execJam02 (s : State) : Res State :=
  jamInstr Config.jamSet 0x02 s

/-- $12 JAM (R234). -/
def execJam12 (s : State) : Res State :=
  jamInstr Config.jamSet 0x12 s

/-- $22 JAM (R234). -/
def execJam22 (s : State) : Res State :=
  jamInstr Config.jamSet 0x22 s

/-- $32 JAM (R234). -/
def execJam32 (s : State) : Res State :=
  jamInstr Config.jamSet 0x32 s

/-- $42 JAM (R234). -/
def execJam42 (s : State) : Res State :=
  jamInstr Config.jamSet 0x42 s

/-- $52 JAM (R234). -/
def execJam52 (s : State) : Res State :=
  jamInstr Config.jamSet 0x52 s

/-- $62 JAM (R234). -/
def execJam62 (s : State) : Res State :=
  jamInstr Config.jamSet 0x62 s

/-- $72 JAM (R234). -/
def execJam72 (s : State) : Res State :=
  jamInstr Config.jamSet 0x72 s

/-- $92 JAM (R234). -/
def execJam92 (s : State) : Res State :=
  jamInstr Config.jamSet 0x92 s

/-- $B2 JAM (R234). -/
def execJamB2 (s : State) : Res State :=
  jamInstr Config.jamSet 0xB2 s

/-- $D2 JAM (R234). -/
def execJamD2 (s : State) : Res State :=
  jamInstr Config.jamSet 0xD2 s

/-- $F2 JAM (R234). -/
def execJamF2 (s : State) : Res State :=
  jamInstr Config.jamSet 0xF2 s

end Sys2Proof.Machine
end

