-- ==== Sys2Proof/Syntax.lean ====
section
/-! DEFINITION. The instructions: one constructor per row of spec/opcode_table.json, that is, one per
opcode (30 R73, R74). A constructor is named after its mnemonic and its addressing mode; where several
opcodes share both (NOP, JAM, ANC) the opcode's two hex digits follow. `n` is the operand byte of a
two-byte instruction, `addr` the assembled operand `{hh, ll}` of a three-byte one (30 R70, R72). -/

namespace Sys2Proof

/-- The 256 instructions. -/
inductive Instr where
  -- Format F2: an opcode and one operand byte.
  /-- $01 ORA (n,X) (R134) -/
  | oraIzx (n : Byte)
  /-- $03 SLO (n,X) (R211) -/
  | sloIzx (n : Byte)
  /-- $04 NOP n (R233) -/
  | nopZp04 (n : Byte)
  /-- $05 ORA n (R134) -/
  | oraZp (n : Byte)
  /-- $06 ASL n (R160) -/
  | aslZp (n : Byte)
  /-- $07 SLO n (R211) -/
  | sloZp (n : Byte)
  /-- $09 ORA #n (R134) -/
  | oraImm (n : Byte)
  /-- $0B ANC #n (R219) -/
  | anc0B (n : Byte)
  /-- $10 BPL n (R171) -/
  | bpl (n : Byte)
  /-- $11 ORA (n),Y (R134) -/
  | oraIzy (n : Byte)
  /-- $13 SLO (n),Y (R211) -/
  | sloIzy (n : Byte)
  /-- $14 NOP n,X (R233) -/
  | nopZpx14 (n : Byte)
  /-- $15 ORA n,X (R134) -/
  | oraZpx (n : Byte)
  /-- $16 ASL n,X (R160) -/
  | aslZpx (n : Byte)
  /-- $17 SLO n,X (R211) -/
  | sloZpx (n : Byte)
  /-- $21 AND (n,X) (R133) -/
  | andIzx (n : Byte)
  /-- $23 RLA (n,X) (R212) -/
  | rlaIzx (n : Byte)
  /-- $24 BIT n (R136) -/
  | bitZp (n : Byte)
  /-- $25 AND n (R133) -/
  | andZp (n : Byte)
  /-- $26 ROL n (R162) -/
  | rolZp (n : Byte)
  /-- $27 RLA n (R212) -/
  | rlaZp (n : Byte)
  /-- $29 AND #n (R133) -/
  | andImm (n : Byte)
  /-- $2B ANC #n (R219) -/
  | anc2B (n : Byte)
  /-- $30 BMI n (R172) -/
  | bmi (n : Byte)
  /-- $31 AND (n),Y (R133) -/
  | andIzy (n : Byte)
  /-- $33 RLA (n),Y (R212) -/
  | rlaIzy (n : Byte)
  /-- $34 NOP n,X (R233) -/
  | nopZpx34 (n : Byte)
  /-- $35 AND n,X (R133) -/
  | andZpx (n : Byte)
  /-- $36 ROL n,X (R162) -/
  | rolZpx (n : Byte)
  /-- $37 RLA n,X (R212) -/
  | rlaZpx (n : Byte)
  /-- $41 EOR (n,X) (R135) -/
  | eorIzx (n : Byte)
  /-- $43 SRE (n,X) (R213) -/
  | sreIzx (n : Byte)
  /-- $44 NOP n (R233) -/
  | nopZp44 (n : Byte)
  /-- $45 EOR n (R135) -/
  | eorZp (n : Byte)
  /-- $46 LSR n (R161) -/
  | lsrZp (n : Byte)
  /-- $47 SRE n (R213) -/
  | sreZp (n : Byte)
  /-- $49 EOR #n (R135) -/
  | eorImm (n : Byte)
  /-- $4B ALR #n (R220) -/
  | alrImm (n : Byte)
  /-- $50 BVC n (R173) -/
  | bvc (n : Byte)
  /-- $51 EOR (n),Y (R135) -/
  | eorIzy (n : Byte)
  /-- $53 SRE (n),Y (R213) -/
  | sreIzy (n : Byte)
  /-- $54 NOP n,X (R233) -/
  | nopZpx54 (n : Byte)
  /-- $55 EOR n,X (R135) -/
  | eorZpx (n : Byte)
  /-- $56 LSR n,X (R161) -/
  | lsrZpx (n : Byte)
  /-- $57 SRE n,X (R213) -/
  | sreZpx (n : Byte)
  /-- $61 ADC (n,X) (R131) -/
  | adcIzx (n : Byte)
  /-- $63 RRA (n,X) (R214) -/
  | rraIzx (n : Byte)
  /-- $64 NOP n (R233) -/
  | nopZp64 (n : Byte)
  /-- $65 ADC n (R131) -/
  | adcZp (n : Byte)
  /-- $66 ROR n (R163) -/
  | rorZp (n : Byte)
  /-- $67 RRA n (R214) -/
  | rraZp (n : Byte)
  /-- $69 ADC #n (R131) -/
  | adcImm (n : Byte)
  /-- $6B ARR #n (R221) -/
  | arrImm (n : Byte)
  /-- $70 BVS n (R174) -/
  | bvs (n : Byte)
  /-- $71 ADC (n),Y (R131) -/
  | adcIzy (n : Byte)
  /-- $73 RRA (n),Y (R214) -/
  | rraIzy (n : Byte)
  /-- $74 NOP n,X (R233) -/
  | nopZpx74 (n : Byte)
  /-- $75 ADC n,X (R131) -/
  | adcZpx (n : Byte)
  /-- $76 ROR n,X (R163) -/
  | rorZpx (n : Byte)
  /-- $77 RRA n,X (R214) -/
  | rraZpx (n : Byte)
  /-- $80 NOP #n (R232) -/
  | nopImm80 (n : Byte)
  /-- $81 STA (n,X) (R113) -/
  | staIzx (n : Byte)
  /-- $82 NOP #n (R232) -/
  | nopImm82 (n : Byte)
  /-- $83 SAX (n,X) (R215) -/
  | saxIzx (n : Byte)
  /-- $84 STY n (R115) -/
  | styZp (n : Byte)
  /-- $85 STA n (R113) -/
  | staZp (n : Byte)
  /-- $86 STX n (R114) -/
  | stxZp (n : Byte)
  /-- $87 SAX n (R215) -/
  | saxZp (n : Byte)
  /-- $89 NOP #n (R232) -/
  | nopImm89 (n : Byte)
  /-- $8B ANE #n (R222) -/
  | aneImm (n : Byte)
  /-- $90 BCC n (R175) -/
  | bcc (n : Byte)
  /-- $91 STA (n),Y (R113) -/
  | staIzy (n : Byte)
  /-- $93 SHA (n),Y (R225) -/
  | shaIzy (n : Byte)
  /-- $94 STY n,X (R115) -/
  | styZpx (n : Byte)
  /-- $95 STA n,X (R113) -/
  | staZpx (n : Byte)
  /-- $96 STX n,Y (R114) -/
  | stxZpy (n : Byte)
  /-- $97 SAX n,Y (R215) -/
  | saxZpy (n : Byte)
  /-- $A0 LDY #n (R112) -/
  | ldyImm (n : Byte)
  /-- $A1 LDA (n,X) (R110) -/
  | ldaIzx (n : Byte)
  /-- $A2 LDX #n (R111) -/
  | ldxImm (n : Byte)
  /-- $A3 LAX (n,X) (R216) -/
  | laxIzx (n : Byte)
  /-- $A4 LDY n (R112) -/
  | ldyZp (n : Byte)
  /-- $A5 LDA n (R110) -/
  | ldaZp (n : Byte)
  /-- $A6 LDX n (R111) -/
  | ldxZp (n : Byte)
  /-- $A7 LAX n (R216) -/
  | laxZp (n : Byte)
  /-- $A9 LDA #n (R110) -/
  | ldaImm (n : Byte)
  /-- $AB LXA #n (R223) -/
  | lxaImm (n : Byte)
  /-- $B0 BCS n (R176) -/
  | bcs (n : Byte)
  /-- $B1 LDA (n),Y (R110) -/
  | ldaIzy (n : Byte)
  /-- $B3 LAX (n),Y (R216) -/
  | laxIzy (n : Byte)
  /-- $B4 LDY n,X (R112) -/
  | ldyZpx (n : Byte)
  /-- $B5 LDA n,X (R110) -/
  | ldaZpx (n : Byte)
  /-- $B6 LDX n,Y (R111) -/
  | ldxZpy (n : Byte)
  /-- $B7 LAX n,Y (R216) -/
  | laxZpy (n : Byte)
  /-- $C0 CPY #n (R140) -/
  | cpyImm (n : Byte)
  /-- $C1 CMP (n,X) (R138) -/
  | cmpIzx (n : Byte)
  /-- $C2 NOP #n (R232) -/
  | nopImmC2 (n : Byte)
  /-- $C3 DCP (n,X) (R217) -/
  | dcpIzx (n : Byte)
  /-- $C4 CPY n (R140) -/
  | cpyZp (n : Byte)
  /-- $C5 CMP n (R138) -/
  | cmpZp (n : Byte)
  /-- $C6 DEC n (R142) -/
  | decZp (n : Byte)
  /-- $C7 DCP n (R217) -/
  | dcpZp (n : Byte)
  /-- $C9 CMP #n (R138) -/
  | cmpImm (n : Byte)
  /-- $CB SBX #n (R224) -/
  | sbxImm (n : Byte)
  /-- $D0 BNE n (R177) -/
  | bne (n : Byte)
  /-- $D1 CMP (n),Y (R138) -/
  | cmpIzy (n : Byte)
  /-- $D3 DCP (n),Y (R217) -/
  | dcpIzy (n : Byte)
  /-- $D4 NOP n,X (R233) -/
  | nopZpxD4 (n : Byte)
  /-- $D5 CMP n,X (R138) -/
  | cmpZpx (n : Byte)
  /-- $D6 DEC n,X (R142) -/
  | decZpx (n : Byte)
  /-- $D7 DCP n,X (R217) -/
  | dcpZpx (n : Byte)
  /-- $E0 CPX #n (R139) -/
  | cpxImm (n : Byte)
  /-- $E1 SBC (n,X) (R132) -/
  | sbcIzx (n : Byte)
  /-- $E2 NOP #n (R232) -/
  | nopImmE2 (n : Byte)
  /-- $E3 ISC (n,X) (R218) -/
  | iscIzx (n : Byte)
  /-- $E4 CPX n (R139) -/
  | cpxZp (n : Byte)
  /-- $E5 SBC n (R132) -/
  | sbcZp (n : Byte)
  /-- $E6 INC n (R141) -/
  | incZp (n : Byte)
  /-- $E7 ISC n (R218) -/
  | iscZp (n : Byte)
  /-- $E9 SBC #n (R132) -/
  | sbcImm (n : Byte)
  /-- $EB USBC #n (R230) -/
  | usbcImm (n : Byte)
  /-- $F0 BEQ n (R178) -/
  | beq (n : Byte)
  /-- $F1 SBC (n),Y (R132) -/
  | sbcIzy (n : Byte)
  /-- $F3 ISC (n),Y (R218) -/
  | iscIzy (n : Byte)
  /-- $F4 NOP n,X (R233) -/
  | nopZpxF4 (n : Byte)
  /-- $F5 SBC n,X (R132) -/
  | sbcZpx (n : Byte)
  /-- $F6 INC n,X (R141) -/
  | incZpx (n : Byte)
  /-- $F7 ISC n,X (R218) -/
  | iscZpx (n : Byte)
  -- Format F3: an opcode and two operand bytes.
  /-- $0C NOP addr (R233) -/
  | nopAbs0C (addr : Word)
  /-- $0D ORA addr (R134) -/
  | oraAbs (addr : Word)
  /-- $0E ASL addr (R160) -/
  | aslAbs (addr : Word)
  /-- $0F SLO addr (R211) -/
  | sloAbs (addr : Word)
  /-- $19 ORA addr,Y (R134) -/
  | oraAby (addr : Word)
  /-- $1B SLO addr,Y (R211) -/
  | sloAby (addr : Word)
  /-- $1C NOP addr,X (R233) -/
  | nopAbx1C (addr : Word)
  /-- $1D ORA addr,X (R134) -/
  | oraAbx (addr : Word)
  /-- $1E ASL addr,X (R160) -/
  | aslAbx (addr : Word)
  /-- $1F SLO addr,X (R211) -/
  | sloAbx (addr : Word)
  /-- $20 JSR addr (R181) -/
  | jsrAbs (addr : Word)
  /-- $2C BIT addr (R136) -/
  | bitAbs (addr : Word)
  /-- $2D AND addr (R133) -/
  | andAbs (addr : Word)
  /-- $2E ROL addr (R162) -/
  | rolAbs (addr : Word)
  /-- $2F RLA addr (R212) -/
  | rlaAbs (addr : Word)
  /-- $39 AND addr,Y (R133) -/
  | andAby (addr : Word)
  /-- $3B RLA addr,Y (R212) -/
  | rlaAby (addr : Word)
  /-- $3C NOP addr,X (R233) -/
  | nopAbx3C (addr : Word)
  /-- $3D AND addr,X (R133) -/
  | andAbx (addr : Word)
  /-- $3E ROL addr,X (R162) -/
  | rolAbx (addr : Word)
  /-- $3F RLA addr,X (R212) -/
  | rlaAbx (addr : Word)
  /-- $4C JMP addr (R179) -/
  | jmpAbs (addr : Word)
  /-- $4D EOR addr (R135) -/
  | eorAbs (addr : Word)
  /-- $4E LSR addr (R161) -/
  | lsrAbs (addr : Word)
  /-- $4F SRE addr (R213) -/
  | sreAbs (addr : Word)
  /-- $59 EOR addr,Y (R135) -/
  | eorAby (addr : Word)
  /-- $5B SRE addr,Y (R213) -/
  | sreAby (addr : Word)
  /-- $5C NOP addr,X (R233) -/
  | nopAbx5C (addr : Word)
  /-- $5D EOR addr,X (R135) -/
  | eorAbx (addr : Word)
  /-- $5E LSR addr,X (R161) -/
  | lsrAbx (addr : Word)
  /-- $5F SRE addr,X (R213) -/
  | sreAbx (addr : Word)
  /-- $6C JMP (addr) (R180) -/
  | jmpInd (addr : Word)
  /-- $6D ADC addr (R131) -/
  | adcAbs (addr : Word)
  /-- $6E ROR addr (R163) -/
  | rorAbs (addr : Word)
  /-- $6F RRA addr (R214) -/
  | rraAbs (addr : Word)
  /-- $79 ADC addr,Y (R131) -/
  | adcAby (addr : Word)
  /-- $7B RRA addr,Y (R214) -/
  | rraAby (addr : Word)
  /-- $7C NOP addr,X (R233) -/
  | nopAbx7C (addr : Word)
  /-- $7D ADC addr,X (R131) -/
  | adcAbx (addr : Word)
  /-- $7E ROR addr,X (R163) -/
  | rorAbx (addr : Word)
  /-- $7F RRA addr,X (R214) -/
  | rraAbx (addr : Word)
  /-- $8C STY addr (R115) -/
  | styAbs (addr : Word)
  /-- $8D STA addr (R113) -/
  | staAbs (addr : Word)
  /-- $8E STX addr (R114) -/
  | stxAbs (addr : Word)
  /-- $8F SAX addr (R215) -/
  | saxAbs (addr : Word)
  /-- $99 STA addr,Y (R113) -/
  | staAby (addr : Word)
  /-- $9B TAS addr,Y (R228) -/
  | tasAby (addr : Word)
  /-- $9C SHY addr,X (R227) -/
  | shyAbx (addr : Word)
  /-- $9D STA addr,X (R113) -/
  | staAbx (addr : Word)
  /-- $9E SHX addr,Y (R226) -/
  | shxAby (addr : Word)
  /-- $9F SHA addr,Y (R225) -/
  | shaAby (addr : Word)
  /-- $AC LDY addr (R112) -/
  | ldyAbs (addr : Word)
  /-- $AD LDA addr (R110) -/
  | ldaAbs (addr : Word)
  /-- $AE LDX addr (R111) -/
  | ldxAbs (addr : Word)
  /-- $AF LAX addr (R216) -/
  | laxAbs (addr : Word)
  /-- $B9 LDA addr,Y (R110) -/
  | ldaAby (addr : Word)
  /-- $BB LAS addr,Y (R229) -/
  | lasAby (addr : Word)
  /-- $BC LDY addr,X (R112) -/
  | ldyAbx (addr : Word)
  /-- $BD LDA addr,X (R110) -/
  | ldaAbx (addr : Word)
  /-- $BE LDX addr,Y (R111) -/
  | ldxAby (addr : Word)
  /-- $BF LAX addr,Y (R216) -/
  | laxAby (addr : Word)
  /-- $CC CPY addr (R140) -/
  | cpyAbs (addr : Word)
  /-- $CD CMP addr (R138) -/
  | cmpAbs (addr : Word)
  /-- $CE DEC addr (R142) -/
  | decAbs (addr : Word)
  /-- $CF DCP addr (R217) -/
  | dcpAbs (addr : Word)
  /-- $D9 CMP addr,Y (R138) -/
  | cmpAby (addr : Word)
  /-- $DB DCP addr,Y (R217) -/
  | dcpAby (addr : Word)
  /-- $DC NOP addr,X (R233) -/
  | nopAbxDC (addr : Word)
  /-- $DD CMP addr,X (R138) -/
  | cmpAbx (addr : Word)
  /-- $DE DEC addr,X (R142) -/
  | decAbx (addr : Word)
  /-- $DF DCP addr,X (R217) -/
  | dcpAbx (addr : Word)
  /-- $EC CPX addr (R139) -/
  | cpxAbs (addr : Word)
  /-- $ED SBC addr (R132) -/
  | sbcAbs (addr : Word)
  /-- $EE INC addr (R141) -/
  | incAbs (addr : Word)
  /-- $EF ISC addr (R218) -/
  | iscAbs (addr : Word)
  /-- $F9 SBC addr,Y (R132) -/
  | sbcAby (addr : Word)
  /-- $FB ISC addr,Y (R218) -/
  | iscAby (addr : Word)
  /-- $FC NOP addr,X (R233) -/
  | nopAbxFC (addr : Word)
  /-- $FD SBC addr,X (R132) -/
  | sbcAbx (addr : Word)
  /-- $FE INC addr,X (R141) -/
  | incAbx (addr : Word)
  /-- $FF ISC addr,X (R218) -/
  | iscAbx (addr : Word)
  -- Format F1: an opcode alone. Last, since the compiler takes at most 244 constructors before one with a field.
  /-- $00 BRK (R183) -/
  | brk
  /-- $02 JAM (R234) -/
  | jam02
  /-- $08 PHP (R191) -/
  | php
  /-- $0A ASL A (R160) -/
  | aslAcc
  /-- $12 JAM (R234) -/
  | jam12
  /-- $18 CLC (R194) -/
  | clc
  /-- $1A NOP (R231) -/
  | nopImp1A
  /-- $22 JAM (R234) -/
  | jam22
  /-- $28 PLP (R193) -/
  | plp
  /-- $2A ROL A (R162) -/
  | rolAcc
  /-- $32 JAM (R234) -/
  | jam32
  /-- $38 SEC (R195) -/
  | sec
  /-- $3A NOP (R231) -/
  | nopImp3A
  /-- $40 RTI (R184) -/
  | rti
  /-- $42 JAM (R234) -/
  | jam42
  /-- $48 PHA (R190) -/
  | pha
  /-- $4A LSR A (R161) -/
  | lsrAcc
  /-- $52 JAM (R234) -/
  | jam52
  /-- $58 CLI (R196) -/
  | cli
  /-- $5A NOP (R231) -/
  | nopImp5A
  /-- $60 RTS (R182) -/
  | rts
  /-- $62 JAM (R234) -/
  | jam62
  /-- $68 PLA (R192) -/
  | pla
  /-- $6A ROR A (R163) -/
  | rorAcc
  /-- $72 JAM (R234) -/
  | jam72
  /-- $78 SEI (R197) -/
  | sei
  /-- $7A NOP (R231) -/
  | nopImp7A
  /-- $88 DEY (R146) -/
  | dey
  /-- $8A TXA (R118) -/
  | txa
  /-- $92 JAM (R234) -/
  | jam92
  /-- $98 TYA (R119) -/
  | tya
  /-- $9A TXS (R121) -/
  | txs
  /-- $A8 TAY (R117) -/
  | tay
  /-- $AA TAX (R116) -/
  | tax
  /-- $B2 JAM (R234) -/
  | jamB2
  /-- $B8 CLV (R200) -/
  | clv
  /-- $BA TSX (R120) -/
  | tsx
  /-- $C8 INY (R144) -/
  | iny
  /-- $CA DEX (R145) -/
  | dex
  /-- $D2 JAM (R234) -/
  | jamD2
  /-- $D8 CLD (R198) -/
  | cld
  /-- $DA NOP (R231) -/
  | nopImpDA
  /-- $E8 INX (R143) -/
  | inx
  /-- $EA NOP (R201) -/
  | nop
  /-- $F2 JAM (R234) -/
  | jamF2
  /-- $F8 SED (R199) -/
  | sed
  /-- $FA NOP (R231) -/
  | nopImpFA
deriving DecidableEq, Repr

end Sys2Proof
end

