-- ==== Sys2Proof/Machine/Dispatch.lean ====
section
/-! DEFINITION. One arm per instruction, in the opcode table's order (30 R74). `exec i s` is the execution
of the fetched instruction `i` with PC still at its opcode and `stall` holding the interrupt-entry
cycles of the tick (60 R250, R252). -/

namespace Sys2Proof.Machine

def exec (i : Instr) (s : State) : Host.Outcome State Fault Refusal :=
  match i with
  | .brk => Sys2Proof.Machine.execBrk s
  | .oraIzx n => Sys2Proof.Machine.execOraIzx n s
  | .jam02 => Sys2Proof.Machine.execJam02 s
  | .sloIzx n => Sys2Proof.Machine.execSloIzx n s
  | .nopZp04 n => Sys2Proof.Machine.execNopZp04 n s
  | .oraZp n => Sys2Proof.Machine.execOraZp n s
  | .aslZp n => Sys2Proof.Machine.execAslZp n s
  | .sloZp n => Sys2Proof.Machine.execSloZp n s
  | .php => Sys2Proof.Machine.execPhp s
  | .oraImm n => Sys2Proof.Machine.execOraImm n s
  | .aslAcc => Sys2Proof.Machine.execAslAcc s
  | .anc0B n => Sys2Proof.Machine.execAnc0B n s
  | .nopAbs0C addr => Sys2Proof.Machine.execNopAbs0C addr s
  | .oraAbs addr => Sys2Proof.Machine.execOraAbs addr s
  | .aslAbs addr => Sys2Proof.Machine.execAslAbs addr s
  | .sloAbs addr => Sys2Proof.Machine.execSloAbs addr s
  | .bpl n => Sys2Proof.Machine.execBpl n s
  | .oraIzy n => Sys2Proof.Machine.execOraIzy n s
  | .jam12 => Sys2Proof.Machine.execJam12 s
  | .sloIzy n => Sys2Proof.Machine.execSloIzy n s
  | .nopZpx14 n => Sys2Proof.Machine.execNopZpx14 n s
  | .oraZpx n => Sys2Proof.Machine.execOraZpx n s
  | .aslZpx n => Sys2Proof.Machine.execAslZpx n s
  | .sloZpx n => Sys2Proof.Machine.execSloZpx n s
  | .clc => Sys2Proof.Machine.execClc s
  | .oraAby addr => Sys2Proof.Machine.execOraAby addr s
  | .nopImp1A => Sys2Proof.Machine.execNopImp1A s
  | .sloAby addr => Sys2Proof.Machine.execSloAby addr s
  | .nopAbx1C addr => Sys2Proof.Machine.execNopAbx1C addr s
  | .oraAbx addr => Sys2Proof.Machine.execOraAbx addr s
  | .aslAbx addr => Sys2Proof.Machine.execAslAbx addr s
  | .sloAbx addr => Sys2Proof.Machine.execSloAbx addr s
  | .jsrAbs addr => Sys2Proof.Machine.execJsrAbs addr s
  | .andIzx n => Sys2Proof.Machine.execAndIzx n s
  | .jam22 => Sys2Proof.Machine.execJam22 s
  | .rlaIzx n => Sys2Proof.Machine.execRlaIzx n s
  | .bitZp n => Sys2Proof.Machine.execBitZp n s
  | .andZp n => Sys2Proof.Machine.execAndZp n s
  | .rolZp n => Sys2Proof.Machine.execRolZp n s
  | .rlaZp n => Sys2Proof.Machine.execRlaZp n s
  | .plp => Sys2Proof.Machine.execPlp s
  | .andImm n => Sys2Proof.Machine.execAndImm n s
  | .rolAcc => Sys2Proof.Machine.execRolAcc s
  | .anc2B n => Sys2Proof.Machine.execAnc2B n s
  | .bitAbs addr => Sys2Proof.Machine.execBitAbs addr s
  | .andAbs addr => Sys2Proof.Machine.execAndAbs addr s
  | .rolAbs addr => Sys2Proof.Machine.execRolAbs addr s
  | .rlaAbs addr => Sys2Proof.Machine.execRlaAbs addr s
  | .bmi n => Sys2Proof.Machine.execBmi n s
  | .andIzy n => Sys2Proof.Machine.execAndIzy n s
  | .jam32 => Sys2Proof.Machine.execJam32 s
  | .rlaIzy n => Sys2Proof.Machine.execRlaIzy n s
  | .nopZpx34 n => Sys2Proof.Machine.execNopZpx34 n s
  | .andZpx n => Sys2Proof.Machine.execAndZpx n s
  | .rolZpx n => Sys2Proof.Machine.execRolZpx n s
  | .rlaZpx n => Sys2Proof.Machine.execRlaZpx n s
  | .sec => Sys2Proof.Machine.execSec s
  | .andAby addr => Sys2Proof.Machine.execAndAby addr s
  | .nopImp3A => Sys2Proof.Machine.execNopImp3A s
  | .rlaAby addr => Sys2Proof.Machine.execRlaAby addr s
  | .nopAbx3C addr => Sys2Proof.Machine.execNopAbx3C addr s
  | .andAbx addr => Sys2Proof.Machine.execAndAbx addr s
  | .rolAbx addr => Sys2Proof.Machine.execRolAbx addr s
  | .rlaAbx addr => Sys2Proof.Machine.execRlaAbx addr s
  | .rti => Sys2Proof.Machine.execRti s
  | .eorIzx n => Sys2Proof.Machine.execEorIzx n s
  | .jam42 => Sys2Proof.Machine.execJam42 s
  | .sreIzx n => Sys2Proof.Machine.execSreIzx n s
  | .nopZp44 n => Sys2Proof.Machine.execNopZp44 n s
  | .eorZp n => Sys2Proof.Machine.execEorZp n s
  | .lsrZp n => Sys2Proof.Machine.execLsrZp n s
  | .sreZp n => Sys2Proof.Machine.execSreZp n s
  | .pha => Sys2Proof.Machine.execPha s
  | .eorImm n => Sys2Proof.Machine.execEorImm n s
  | .lsrAcc => Sys2Proof.Machine.execLsrAcc s
  | .alrImm n => Sys2Proof.Machine.execAlrImm n s
  | .jmpAbs addr => Sys2Proof.Machine.execJmpAbs addr s
  | .eorAbs addr => Sys2Proof.Machine.execEorAbs addr s
  | .lsrAbs addr => Sys2Proof.Machine.execLsrAbs addr s
  | .sreAbs addr => Sys2Proof.Machine.execSreAbs addr s
  | .bvc n => Sys2Proof.Machine.execBvc n s
  | .eorIzy n => Sys2Proof.Machine.execEorIzy n s
  | .jam52 => Sys2Proof.Machine.execJam52 s
  | .sreIzy n => Sys2Proof.Machine.execSreIzy n s
  | .nopZpx54 n => Sys2Proof.Machine.execNopZpx54 n s
  | .eorZpx n => Sys2Proof.Machine.execEorZpx n s
  | .lsrZpx n => Sys2Proof.Machine.execLsrZpx n s
  | .sreZpx n => Sys2Proof.Machine.execSreZpx n s
  | .cli => Sys2Proof.Machine.execCli s
  | .eorAby addr => Sys2Proof.Machine.execEorAby addr s
  | .nopImp5A => Sys2Proof.Machine.execNopImp5A s
  | .sreAby addr => Sys2Proof.Machine.execSreAby addr s
  | .nopAbx5C addr => Sys2Proof.Machine.execNopAbx5C addr s
  | .eorAbx addr => Sys2Proof.Machine.execEorAbx addr s
  | .lsrAbx addr => Sys2Proof.Machine.execLsrAbx addr s
  | .sreAbx addr => Sys2Proof.Machine.execSreAbx addr s
  | .rts => Sys2Proof.Machine.execRts s
  | .adcIzx n => Sys2Proof.Machine.execAdcIzx n s
  | .jam62 => Sys2Proof.Machine.execJam62 s
  | .rraIzx n => Sys2Proof.Machine.execRraIzx n s
  | .nopZp64 n => Sys2Proof.Machine.execNopZp64 n s
  | .adcZp n => Sys2Proof.Machine.execAdcZp n s
  | .rorZp n => Sys2Proof.Machine.execRorZp n s
  | .rraZp n => Sys2Proof.Machine.execRraZp n s
  | .pla => Sys2Proof.Machine.execPla s
  | .adcImm n => Sys2Proof.Machine.execAdcImm n s
  | .rorAcc => Sys2Proof.Machine.execRorAcc s
  | .arrImm n => Sys2Proof.Machine.execArrImm n s
  | .jmpInd addr => Sys2Proof.Machine.execJmpInd addr s
  | .adcAbs addr => Sys2Proof.Machine.execAdcAbs addr s
  | .rorAbs addr => Sys2Proof.Machine.execRorAbs addr s
  | .rraAbs addr => Sys2Proof.Machine.execRraAbs addr s
  | .bvs n => Sys2Proof.Machine.execBvs n s
  | .adcIzy n => Sys2Proof.Machine.execAdcIzy n s
  | .jam72 => Sys2Proof.Machine.execJam72 s
  | .rraIzy n => Sys2Proof.Machine.execRraIzy n s
  | .nopZpx74 n => Sys2Proof.Machine.execNopZpx74 n s
  | .adcZpx n => Sys2Proof.Machine.execAdcZpx n s
  | .rorZpx n => Sys2Proof.Machine.execRorZpx n s
  | .rraZpx n => Sys2Proof.Machine.execRraZpx n s
  | .sei => Sys2Proof.Machine.execSei s
  | .adcAby addr => Sys2Proof.Machine.execAdcAby addr s
  | .nopImp7A => Sys2Proof.Machine.execNopImp7A s
  | .rraAby addr => Sys2Proof.Machine.execRraAby addr s
  | .nopAbx7C addr => Sys2Proof.Machine.execNopAbx7C addr s
  | .adcAbx addr => Sys2Proof.Machine.execAdcAbx addr s
  | .rorAbx addr => Sys2Proof.Machine.execRorAbx addr s
  | .rraAbx addr => Sys2Proof.Machine.execRraAbx addr s
  | .nopImm80 n => Sys2Proof.Machine.execNopImm80 n s
  | .staIzx n => Sys2Proof.Machine.execStaIzx n s
  | .nopImm82 n => Sys2Proof.Machine.execNopImm82 n s
  | .saxIzx n => Sys2Proof.Machine.execSaxIzx n s
  | .styZp n => Sys2Proof.Machine.execStyZp n s
  | .staZp n => Sys2Proof.Machine.execStaZp n s
  | .stxZp n => Sys2Proof.Machine.execStxZp n s
  | .saxZp n => Sys2Proof.Machine.execSaxZp n s
  | .dey => Sys2Proof.Machine.execDey s
  | .nopImm89 n => Sys2Proof.Machine.execNopImm89 n s
  | .txa => Sys2Proof.Machine.execTxa s
  | .aneImm n => Sys2Proof.Machine.execAneImm n s
  | .styAbs addr => Sys2Proof.Machine.execStyAbs addr s
  | .staAbs addr => Sys2Proof.Machine.execStaAbs addr s
  | .stxAbs addr => Sys2Proof.Machine.execStxAbs addr s
  | .saxAbs addr => Sys2Proof.Machine.execSaxAbs addr s
  | .bcc n => Sys2Proof.Machine.execBcc n s
  | .staIzy n => Sys2Proof.Machine.execStaIzy n s
  | .jam92 => Sys2Proof.Machine.execJam92 s
  | .shaIzy n => Sys2Proof.Machine.execShaIzy n s
  | .styZpx n => Sys2Proof.Machine.execStyZpx n s
  | .staZpx n => Sys2Proof.Machine.execStaZpx n s
  | .stxZpy n => Sys2Proof.Machine.execStxZpy n s
  | .saxZpy n => Sys2Proof.Machine.execSaxZpy n s
  | .tya => Sys2Proof.Machine.execTya s
  | .staAby addr => Sys2Proof.Machine.execStaAby addr s
  | .txs => Sys2Proof.Machine.execTxs s
  | .tasAby addr => Sys2Proof.Machine.execTasAby addr s
  | .shyAbx addr => Sys2Proof.Machine.execShyAbx addr s
  | .staAbx addr => Sys2Proof.Machine.execStaAbx addr s
  | .shxAby addr => Sys2Proof.Machine.execShxAby addr s
  | .shaAby addr => Sys2Proof.Machine.execShaAby addr s
  | .ldyImm n => Sys2Proof.Machine.execLdyImm n s
  | .ldaIzx n => Sys2Proof.Machine.execLdaIzx n s
  | .ldxImm n => Sys2Proof.Machine.execLdxImm n s
  | .laxIzx n => Sys2Proof.Machine.execLaxIzx n s
  | .ldyZp n => Sys2Proof.Machine.execLdyZp n s
  | .ldaZp n => Sys2Proof.Machine.execLdaZp n s
  | .ldxZp n => Sys2Proof.Machine.execLdxZp n s
  | .laxZp n => Sys2Proof.Machine.execLaxZp n s
  | .tay => Sys2Proof.Machine.execTay s
  | .ldaImm n => Sys2Proof.Machine.execLdaImm n s
  | .tax => Sys2Proof.Machine.execTax s
  | .lxaImm n => Sys2Proof.Machine.execLxaImm n s
  | .ldyAbs addr => Sys2Proof.Machine.execLdyAbs addr s
  | .ldaAbs addr => Sys2Proof.Machine.execLdaAbs addr s
  | .ldxAbs addr => Sys2Proof.Machine.execLdxAbs addr s
  | .laxAbs addr => Sys2Proof.Machine.execLaxAbs addr s
  | .bcs n => Sys2Proof.Machine.execBcs n s
  | .ldaIzy n => Sys2Proof.Machine.execLdaIzy n s
  | .jamB2 => Sys2Proof.Machine.execJamB2 s
  | .laxIzy n => Sys2Proof.Machine.execLaxIzy n s
  | .ldyZpx n => Sys2Proof.Machine.execLdyZpx n s
  | .ldaZpx n => Sys2Proof.Machine.execLdaZpx n s
  | .ldxZpy n => Sys2Proof.Machine.execLdxZpy n s
  | .laxZpy n => Sys2Proof.Machine.execLaxZpy n s
  | .clv => Sys2Proof.Machine.execClv s
  | .ldaAby addr => Sys2Proof.Machine.execLdaAby addr s
  | .tsx => Sys2Proof.Machine.execTsx s
  | .lasAby addr => Sys2Proof.Machine.execLasAby addr s
  | .ldyAbx addr => Sys2Proof.Machine.execLdyAbx addr s
  | .ldaAbx addr => Sys2Proof.Machine.execLdaAbx addr s
  | .ldxAby addr => Sys2Proof.Machine.execLdxAby addr s
  | .laxAby addr => Sys2Proof.Machine.execLaxAby addr s
  | .cpyImm n => Sys2Proof.Machine.execCpyImm n s
  | .cmpIzx n => Sys2Proof.Machine.execCmpIzx n s
  | .nopImmC2 n => Sys2Proof.Machine.execNopImmC2 n s
  | .dcpIzx n => Sys2Proof.Machine.execDcpIzx n s
  | .cpyZp n => Sys2Proof.Machine.execCpyZp n s
  | .cmpZp n => Sys2Proof.Machine.execCmpZp n s
  | .decZp n => Sys2Proof.Machine.execDecZp n s
  | .dcpZp n => Sys2Proof.Machine.execDcpZp n s
  | .iny => Sys2Proof.Machine.execIny s
  | .cmpImm n => Sys2Proof.Machine.execCmpImm n s
  | .dex => Sys2Proof.Machine.execDex s
  | .sbxImm n => Sys2Proof.Machine.execSbxImm n s
  | .cpyAbs addr => Sys2Proof.Machine.execCpyAbs addr s
  | .cmpAbs addr => Sys2Proof.Machine.execCmpAbs addr s
  | .decAbs addr => Sys2Proof.Machine.execDecAbs addr s
  | .dcpAbs addr => Sys2Proof.Machine.execDcpAbs addr s
  | .bne n => Sys2Proof.Machine.execBne n s
  | .cmpIzy n => Sys2Proof.Machine.execCmpIzy n s
  | .jamD2 => Sys2Proof.Machine.execJamD2 s
  | .dcpIzy n => Sys2Proof.Machine.execDcpIzy n s
  | .nopZpxD4 n => Sys2Proof.Machine.execNopZpxD4 n s
  | .cmpZpx n => Sys2Proof.Machine.execCmpZpx n s
  | .decZpx n => Sys2Proof.Machine.execDecZpx n s
  | .dcpZpx n => Sys2Proof.Machine.execDcpZpx n s
  | .cld => Sys2Proof.Machine.execCld s
  | .cmpAby addr => Sys2Proof.Machine.execCmpAby addr s
  | .nopImpDA => Sys2Proof.Machine.execNopImpDA s
  | .dcpAby addr => Sys2Proof.Machine.execDcpAby addr s
  | .nopAbxDC addr => Sys2Proof.Machine.execNopAbxDC addr s
  | .cmpAbx addr => Sys2Proof.Machine.execCmpAbx addr s
  | .decAbx addr => Sys2Proof.Machine.execDecAbx addr s
  | .dcpAbx addr => Sys2Proof.Machine.execDcpAbx addr s
  | .cpxImm n => Sys2Proof.Machine.execCpxImm n s
  | .sbcIzx n => Sys2Proof.Machine.execSbcIzx n s
  | .nopImmE2 n => Sys2Proof.Machine.execNopImmE2 n s
  | .iscIzx n => Sys2Proof.Machine.execIscIzx n s
  | .cpxZp n => Sys2Proof.Machine.execCpxZp n s
  | .sbcZp n => Sys2Proof.Machine.execSbcZp n s
  | .incZp n => Sys2Proof.Machine.execIncZp n s
  | .iscZp n => Sys2Proof.Machine.execIscZp n s
  | .inx => Sys2Proof.Machine.execInx s
  | .sbcImm n => Sys2Proof.Machine.execSbcImm n s
  | .nop => Sys2Proof.Machine.execNop s
  | .usbcImm n => Sys2Proof.Machine.execUsbcImm n s
  | .cpxAbs addr => Sys2Proof.Machine.execCpxAbs addr s
  | .sbcAbs addr => Sys2Proof.Machine.execSbcAbs addr s
  | .incAbs addr => Sys2Proof.Machine.execIncAbs addr s
  | .iscAbs addr => Sys2Proof.Machine.execIscAbs addr s
  | .beq n => Sys2Proof.Machine.execBeq n s
  | .sbcIzy n => Sys2Proof.Machine.execSbcIzy n s
  | .jamF2 => Sys2Proof.Machine.execJamF2 s
  | .iscIzy n => Sys2Proof.Machine.execIscIzy n s
  | .nopZpxF4 n => Sys2Proof.Machine.execNopZpxF4 n s
  | .sbcZpx n => Sys2Proof.Machine.execSbcZpx n s
  | .incZpx n => Sys2Proof.Machine.execIncZpx n s
  | .iscZpx n => Sys2Proof.Machine.execIscZpx n s
  | .sed => Sys2Proof.Machine.execSed s
  | .sbcAby addr => Sys2Proof.Machine.execSbcAby addr s
  | .nopImpFA => Sys2Proof.Machine.execNopImpFA s
  | .iscAby addr => Sys2Proof.Machine.execIscAby addr s
  | .nopAbxFC addr => Sys2Proof.Machine.execNopAbxFC addr s
  | .sbcAbx addr => Sys2Proof.Machine.execSbcAbx addr s
  | .incAbx addr => Sys2Proof.Machine.execIncAbx addr s
  | .iscAbx addr => Sys2Proof.Machine.execIscAbx addr s

end Sys2Proof.Machine
end

