-- ==== Sys2Proof/WellFormed.lean ====
section
/-! DEFINITION. Well-formedness. -/

namespace Sys2Proof

/-- Every term of `Instr` is well-formed: the opcode alone fixes the mode (30 R70, 40 R107), so no
instruction can meet a mode its rule does not list, and an operand field is exactly as wide as its
type. There is therefore nothing to check on an instruction itself. -/
def Instr.wellFormed (_ : Instr) : Bool := true

/-- A word of the opcode table, as the host hands it over: one, two or three whole bytes (30 R70),
with no bit above them. -/
def wellFormedTableWord (nbits w : Nat) : Bool :=
  (nbits == 8 || nbits == 16 || nbits == 24) && decide (w < 2 ^ nbits)

end Sys2Proof
end

