-- ==== Sys2Proof/Decode.lean ====
section
/-! DEFINITION. The opcode table (30 R74, 10 R35), the decoder that reads it, and the encoder. -/

namespace Sys2Proof

open Sys2Proof.Machine (mkWord hiByte loByte)

/-- The thirteen addressing modes (30 R71). -/
inductive ModeName where
  | imp | acc | imm | zp | zpx | zpy | izx | izy | rel | abs | abx | aby | ind
deriving DecidableEq, Repr

/-- The instruction's length in bytes, fixed by its mode (30 R70). -/
def modeBytes : ModeName → Nat
  | .imp | .acc => 1
  | .imm | .zp | .zpx | .zpy | .izx | .izy | .rel => 2
  | .abs | .abx | .aby | .ind => 3

/-- The extra-cycle class of a row (30 R81). -/
inductive ExtraCycle where
  | none | pageCross | branch
deriving DecidableEq, Repr

/-- A row of the opcode table (10 R35): the mnemonic, the mode, the base cycle count (0 for JAM, which
has none), the extra-cycle class, whether the opcode is official, and the instruction its operand bytes
1 and 2 build (30 R72). -/
structure OpRow where
  mnemonic : String
  mode : ModeName
  base : Nat
  extra : ExtraCycle
  official : Bool
  build : Byte → Byte → Instr

/-- Row 0x of the opcode map (30 R74). -/
def opRows0 : List OpRow := [
  ⟨"BRK", .imp, 7, .none, true, fun _ _ => .brk⟩,
  ⟨"ORA", .izx, 6, .none, true, fun n _ => .oraIzx n⟩,
  ⟨"JAM", .imp, 0, .none, false, fun _ _ => .jam02⟩,
  ⟨"SLO", .izx, 8, .none, false, fun n _ => .sloIzx n⟩,
  ⟨"NOP", .zp, 3, .none, false, fun n _ => .nopZp04 n⟩,
  ⟨"ORA", .zp, 3, .none, true, fun n _ => .oraZp n⟩,
  ⟨"ASL", .zp, 5, .none, true, fun n _ => .aslZp n⟩,
  ⟨"SLO", .zp, 5, .none, false, fun n _ => .sloZp n⟩,
  ⟨"PHP", .imp, 3, .none, true, fun _ _ => .php⟩,
  ⟨"ORA", .imm, 2, .none, true, fun n _ => .oraImm n⟩,
  ⟨"ASL", .acc, 2, .none, true, fun _ _ => .aslAcc⟩,
  ⟨"ANC", .imm, 2, .none, false, fun n _ => .anc0B n⟩,
  ⟨"NOP", .abs, 4, .none, false, fun ll hh => .nopAbs0C (mkWord hh ll)⟩,
  ⟨"ORA", .abs, 4, .none, true, fun ll hh => .oraAbs (mkWord hh ll)⟩,
  ⟨"ASL", .abs, 6, .none, true, fun ll hh => .aslAbs (mkWord hh ll)⟩,
  ⟨"SLO", .abs, 6, .none, false, fun ll hh => .sloAbs (mkWord hh ll)⟩]

/-- Row 1x of the opcode map (30 R74). -/
def opRows1 : List OpRow := [
  ⟨"BPL", .rel, 2, .branch, true, fun n _ => .bpl n⟩,
  ⟨"ORA", .izy, 5, .pageCross, true, fun n _ => .oraIzy n⟩,
  ⟨"JAM", .imp, 0, .none, false, fun _ _ => .jam12⟩,
  ⟨"SLO", .izy, 8, .none, false, fun n _ => .sloIzy n⟩,
  ⟨"NOP", .zpx, 4, .none, false, fun n _ => .nopZpx14 n⟩,
  ⟨"ORA", .zpx, 4, .none, true, fun n _ => .oraZpx n⟩,
  ⟨"ASL", .zpx, 6, .none, true, fun n _ => .aslZpx n⟩,
  ⟨"SLO", .zpx, 6, .none, false, fun n _ => .sloZpx n⟩,
  ⟨"CLC", .imp, 2, .none, true, fun _ _ => .clc⟩,
  ⟨"ORA", .aby, 4, .pageCross, true, fun ll hh => .oraAby (mkWord hh ll)⟩,
  ⟨"NOP", .imp, 2, .none, false, fun _ _ => .nopImp1A⟩,
  ⟨"SLO", .aby, 7, .none, false, fun ll hh => .sloAby (mkWord hh ll)⟩,
  ⟨"NOP", .abx, 4, .pageCross, false, fun ll hh => .nopAbx1C (mkWord hh ll)⟩,
  ⟨"ORA", .abx, 4, .pageCross, true, fun ll hh => .oraAbx (mkWord hh ll)⟩,
  ⟨"ASL", .abx, 7, .none, true, fun ll hh => .aslAbx (mkWord hh ll)⟩,
  ⟨"SLO", .abx, 7, .none, false, fun ll hh => .sloAbx (mkWord hh ll)⟩]

/-- Row 2x of the opcode map (30 R74). -/
def opRows2 : List OpRow := [
  ⟨"JSR", .abs, 6, .none, true, fun ll hh => .jsrAbs (mkWord hh ll)⟩,
  ⟨"AND", .izx, 6, .none, true, fun n _ => .andIzx n⟩,
  ⟨"JAM", .imp, 0, .none, false, fun _ _ => .jam22⟩,
  ⟨"RLA", .izx, 8, .none, false, fun n _ => .rlaIzx n⟩,
  ⟨"BIT", .zp, 3, .none, true, fun n _ => .bitZp n⟩,
  ⟨"AND", .zp, 3, .none, true, fun n _ => .andZp n⟩,
  ⟨"ROL", .zp, 5, .none, true, fun n _ => .rolZp n⟩,
  ⟨"RLA", .zp, 5, .none, false, fun n _ => .rlaZp n⟩,
  ⟨"PLP", .imp, 4, .none, true, fun _ _ => .plp⟩,
  ⟨"AND", .imm, 2, .none, true, fun n _ => .andImm n⟩,
  ⟨"ROL", .acc, 2, .none, true, fun _ _ => .rolAcc⟩,
  ⟨"ANC", .imm, 2, .none, false, fun n _ => .anc2B n⟩,
  ⟨"BIT", .abs, 4, .none, true, fun ll hh => .bitAbs (mkWord hh ll)⟩,
  ⟨"AND", .abs, 4, .none, true, fun ll hh => .andAbs (mkWord hh ll)⟩,
  ⟨"ROL", .abs, 6, .none, true, fun ll hh => .rolAbs (mkWord hh ll)⟩,
  ⟨"RLA", .abs, 6, .none, false, fun ll hh => .rlaAbs (mkWord hh ll)⟩]

/-- Row 3x of the opcode map (30 R74). -/
def opRows3 : List OpRow := [
  ⟨"BMI", .rel, 2, .branch, true, fun n _ => .bmi n⟩,
  ⟨"AND", .izy, 5, .pageCross, true, fun n _ => .andIzy n⟩,
  ⟨"JAM", .imp, 0, .none, false, fun _ _ => .jam32⟩,
  ⟨"RLA", .izy, 8, .none, false, fun n _ => .rlaIzy n⟩,
  ⟨"NOP", .zpx, 4, .none, false, fun n _ => .nopZpx34 n⟩,
  ⟨"AND", .zpx, 4, .none, true, fun n _ => .andZpx n⟩,
  ⟨"ROL", .zpx, 6, .none, true, fun n _ => .rolZpx n⟩,
  ⟨"RLA", .zpx, 6, .none, false, fun n _ => .rlaZpx n⟩,
  ⟨"SEC", .imp, 2, .none, true, fun _ _ => .sec⟩,
  ⟨"AND", .aby, 4, .pageCross, true, fun ll hh => .andAby (mkWord hh ll)⟩,
  ⟨"NOP", .imp, 2, .none, false, fun _ _ => .nopImp3A⟩,
  ⟨"RLA", .aby, 7, .none, false, fun ll hh => .rlaAby (mkWord hh ll)⟩,
  ⟨"NOP", .abx, 4, .pageCross, false, fun ll hh => .nopAbx3C (mkWord hh ll)⟩,
  ⟨"AND", .abx, 4, .pageCross, true, fun ll hh => .andAbx (mkWord hh ll)⟩,
  ⟨"ROL", .abx, 7, .none, true, fun ll hh => .rolAbx (mkWord hh ll)⟩,
  ⟨"RLA", .abx, 7, .none, false, fun ll hh => .rlaAbx (mkWord hh ll)⟩]

/-- Row 4x of the opcode map (30 R74). -/
def opRows4 : List OpRow := [
  ⟨"RTI", .imp, 6, .none, true, fun _ _ => .rti⟩,
  ⟨"EOR", .izx, 6, .none, true, fun n _ => .eorIzx n⟩,
  ⟨"JAM", .imp, 0, .none, false, fun _ _ => .jam42⟩,
  ⟨"SRE", .izx, 8, .none, false, fun n _ => .sreIzx n⟩,
  ⟨"NOP", .zp, 3, .none, false, fun n _ => .nopZp44 n⟩,
  ⟨"EOR", .zp, 3, .none, true, fun n _ => .eorZp n⟩,
  ⟨"LSR", .zp, 5, .none, true, fun n _ => .lsrZp n⟩,
  ⟨"SRE", .zp, 5, .none, false, fun n _ => .sreZp n⟩,
  ⟨"PHA", .imp, 3, .none, true, fun _ _ => .pha⟩,
  ⟨"EOR", .imm, 2, .none, true, fun n _ => .eorImm n⟩,
  ⟨"LSR", .acc, 2, .none, true, fun _ _ => .lsrAcc⟩,
  ⟨"ALR", .imm, 2, .none, false, fun n _ => .alrImm n⟩,
  ⟨"JMP", .abs, 3, .none, true, fun ll hh => .jmpAbs (mkWord hh ll)⟩,
  ⟨"EOR", .abs, 4, .none, true, fun ll hh => .eorAbs (mkWord hh ll)⟩,
  ⟨"LSR", .abs, 6, .none, true, fun ll hh => .lsrAbs (mkWord hh ll)⟩,
  ⟨"SRE", .abs, 6, .none, false, fun ll hh => .sreAbs (mkWord hh ll)⟩]

/-- Row 5x of the opcode map (30 R74). -/
def opRows5 : List OpRow := [
  ⟨"BVC", .rel, 2, .branch, true, fun n _ => .bvc n⟩,
  ⟨"EOR", .izy, 5, .pageCross, true, fun n _ => .eorIzy n⟩,
  ⟨"JAM", .imp, 0, .none, false, fun _ _ => .jam52⟩,
  ⟨"SRE", .izy, 8, .none, false, fun n _ => .sreIzy n⟩,
  ⟨"NOP", .zpx, 4, .none, false, fun n _ => .nopZpx54 n⟩,
  ⟨"EOR", .zpx, 4, .none, true, fun n _ => .eorZpx n⟩,
  ⟨"LSR", .zpx, 6, .none, true, fun n _ => .lsrZpx n⟩,
  ⟨"SRE", .zpx, 6, .none, false, fun n _ => .sreZpx n⟩,
  ⟨"CLI", .imp, 2, .none, true, fun _ _ => .cli⟩,
  ⟨"EOR", .aby, 4, .pageCross, true, fun ll hh => .eorAby (mkWord hh ll)⟩,
  ⟨"NOP", .imp, 2, .none, false, fun _ _ => .nopImp5A⟩,
  ⟨"SRE", .aby, 7, .none, false, fun ll hh => .sreAby (mkWord hh ll)⟩,
  ⟨"NOP", .abx, 4, .pageCross, false, fun ll hh => .nopAbx5C (mkWord hh ll)⟩,
  ⟨"EOR", .abx, 4, .pageCross, true, fun ll hh => .eorAbx (mkWord hh ll)⟩,
  ⟨"LSR", .abx, 7, .none, true, fun ll hh => .lsrAbx (mkWord hh ll)⟩,
  ⟨"SRE", .abx, 7, .none, false, fun ll hh => .sreAbx (mkWord hh ll)⟩]

/-- Row 6x of the opcode map (30 R74). -/
def opRows6 : List OpRow := [
  ⟨"RTS", .imp, 6, .none, true, fun _ _ => .rts⟩,
  ⟨"ADC", .izx, 6, .none, true, fun n _ => .adcIzx n⟩,
  ⟨"JAM", .imp, 0, .none, false, fun _ _ => .jam62⟩,
  ⟨"RRA", .izx, 8, .none, false, fun n _ => .rraIzx n⟩,
  ⟨"NOP", .zp, 3, .none, false, fun n _ => .nopZp64 n⟩,
  ⟨"ADC", .zp, 3, .none, true, fun n _ => .adcZp n⟩,
  ⟨"ROR", .zp, 5, .none, true, fun n _ => .rorZp n⟩,
  ⟨"RRA", .zp, 5, .none, false, fun n _ => .rraZp n⟩,
  ⟨"PLA", .imp, 4, .none, true, fun _ _ => .pla⟩,
  ⟨"ADC", .imm, 2, .none, true, fun n _ => .adcImm n⟩,
  ⟨"ROR", .acc, 2, .none, true, fun _ _ => .rorAcc⟩,
  ⟨"ARR", .imm, 2, .none, false, fun n _ => .arrImm n⟩,
  ⟨"JMP", .ind, 5, .none, true, fun ll hh => .jmpInd (mkWord hh ll)⟩,
  ⟨"ADC", .abs, 4, .none, true, fun ll hh => .adcAbs (mkWord hh ll)⟩,
  ⟨"ROR", .abs, 6, .none, true, fun ll hh => .rorAbs (mkWord hh ll)⟩,
  ⟨"RRA", .abs, 6, .none, false, fun ll hh => .rraAbs (mkWord hh ll)⟩]

/-- Row 7x of the opcode map (30 R74). -/
def opRows7 : List OpRow := [
  ⟨"BVS", .rel, 2, .branch, true, fun n _ => .bvs n⟩,
  ⟨"ADC", .izy, 5, .pageCross, true, fun n _ => .adcIzy n⟩,
  ⟨"JAM", .imp, 0, .none, false, fun _ _ => .jam72⟩,
  ⟨"RRA", .izy, 8, .none, false, fun n _ => .rraIzy n⟩,
  ⟨"NOP", .zpx, 4, .none, false, fun n _ => .nopZpx74 n⟩,
  ⟨"ADC", .zpx, 4, .none, true, fun n _ => .adcZpx n⟩,
  ⟨"ROR", .zpx, 6, .none, true, fun n _ => .rorZpx n⟩,
  ⟨"RRA", .zpx, 6, .none, false, fun n _ => .rraZpx n⟩,
  ⟨"SEI", .imp, 2, .none, true, fun _ _ => .sei⟩,
  ⟨"ADC", .aby, 4, .pageCross, true, fun ll hh => .adcAby (mkWord hh ll)⟩,
  ⟨"NOP", .imp, 2, .none, false, fun _ _ => .nopImp7A⟩,
  ⟨"RRA", .aby, 7, .none, false, fun ll hh => .rraAby (mkWord hh ll)⟩,
  ⟨"NOP", .abx, 4, .pageCross, false, fun ll hh => .nopAbx7C (mkWord hh ll)⟩,
  ⟨"ADC", .abx, 4, .pageCross, true, fun ll hh => .adcAbx (mkWord hh ll)⟩,
  ⟨"ROR", .abx, 7, .none, true, fun ll hh => .rorAbx (mkWord hh ll)⟩,
  ⟨"RRA", .abx, 7, .none, false, fun ll hh => .rraAbx (mkWord hh ll)⟩]

/-- Row 8x of the opcode map (30 R74). -/
def opRows8 : List OpRow := [
  ⟨"NOP", .imm, 2, .none, false, fun n _ => .nopImm80 n⟩,
  ⟨"STA", .izx, 6, .none, true, fun n _ => .staIzx n⟩,
  ⟨"NOP", .imm, 2, .none, false, fun n _ => .nopImm82 n⟩,
  ⟨"SAX", .izx, 6, .none, false, fun n _ => .saxIzx n⟩,
  ⟨"STY", .zp, 3, .none, true, fun n _ => .styZp n⟩,
  ⟨"STA", .zp, 3, .none, true, fun n _ => .staZp n⟩,
  ⟨"STX", .zp, 3, .none, true, fun n _ => .stxZp n⟩,
  ⟨"SAX", .zp, 3, .none, false, fun n _ => .saxZp n⟩,
  ⟨"DEY", .imp, 2, .none, true, fun _ _ => .dey⟩,
  ⟨"NOP", .imm, 2, .none, false, fun n _ => .nopImm89 n⟩,
  ⟨"TXA", .imp, 2, .none, true, fun _ _ => .txa⟩,
  ⟨"ANE", .imm, 2, .none, false, fun n _ => .aneImm n⟩,
  ⟨"STY", .abs, 4, .none, true, fun ll hh => .styAbs (mkWord hh ll)⟩,
  ⟨"STA", .abs, 4, .none, true, fun ll hh => .staAbs (mkWord hh ll)⟩,
  ⟨"STX", .abs, 4, .none, true, fun ll hh => .stxAbs (mkWord hh ll)⟩,
  ⟨"SAX", .abs, 4, .none, false, fun ll hh => .saxAbs (mkWord hh ll)⟩]

/-- Row 9x of the opcode map (30 R74). -/
def opRows9 : List OpRow := [
  ⟨"BCC", .rel, 2, .branch, true, fun n _ => .bcc n⟩,
  ⟨"STA", .izy, 6, .none, true, fun n _ => .staIzy n⟩,
  ⟨"JAM", .imp, 0, .none, false, fun _ _ => .jam92⟩,
  ⟨"SHA", .izy, 6, .none, false, fun n _ => .shaIzy n⟩,
  ⟨"STY", .zpx, 4, .none, true, fun n _ => .styZpx n⟩,
  ⟨"STA", .zpx, 4, .none, true, fun n _ => .staZpx n⟩,
  ⟨"STX", .zpy, 4, .none, true, fun n _ => .stxZpy n⟩,
  ⟨"SAX", .zpy, 4, .none, false, fun n _ => .saxZpy n⟩,
  ⟨"TYA", .imp, 2, .none, true, fun _ _ => .tya⟩,
  ⟨"STA", .aby, 5, .none, true, fun ll hh => .staAby (mkWord hh ll)⟩,
  ⟨"TXS", .imp, 2, .none, true, fun _ _ => .txs⟩,
  ⟨"TAS", .aby, 5, .none, false, fun ll hh => .tasAby (mkWord hh ll)⟩,
  ⟨"SHY", .abx, 5, .none, false, fun ll hh => .shyAbx (mkWord hh ll)⟩,
  ⟨"STA", .abx, 5, .none, true, fun ll hh => .staAbx (mkWord hh ll)⟩,
  ⟨"SHX", .aby, 5, .none, false, fun ll hh => .shxAby (mkWord hh ll)⟩,
  ⟨"SHA", .aby, 5, .none, false, fun ll hh => .shaAby (mkWord hh ll)⟩]

/-- Row Ax of the opcode map (30 R74). -/
def opRowsA : List OpRow := [
  ⟨"LDY", .imm, 2, .none, true, fun n _ => .ldyImm n⟩,
  ⟨"LDA", .izx, 6, .none, true, fun n _ => .ldaIzx n⟩,
  ⟨"LDX", .imm, 2, .none, true, fun n _ => .ldxImm n⟩,
  ⟨"LAX", .izx, 6, .none, false, fun n _ => .laxIzx n⟩,
  ⟨"LDY", .zp, 3, .none, true, fun n _ => .ldyZp n⟩,
  ⟨"LDA", .zp, 3, .none, true, fun n _ => .ldaZp n⟩,
  ⟨"LDX", .zp, 3, .none, true, fun n _ => .ldxZp n⟩,
  ⟨"LAX", .zp, 3, .none, false, fun n _ => .laxZp n⟩,
  ⟨"TAY", .imp, 2, .none, true, fun _ _ => .tay⟩,
  ⟨"LDA", .imm, 2, .none, true, fun n _ => .ldaImm n⟩,
  ⟨"TAX", .imp, 2, .none, true, fun _ _ => .tax⟩,
  ⟨"LXA", .imm, 2, .none, false, fun n _ => .lxaImm n⟩,
  ⟨"LDY", .abs, 4, .none, true, fun ll hh => .ldyAbs (mkWord hh ll)⟩,
  ⟨"LDA", .abs, 4, .none, true, fun ll hh => .ldaAbs (mkWord hh ll)⟩,
  ⟨"LDX", .abs, 4, .none, true, fun ll hh => .ldxAbs (mkWord hh ll)⟩,
  ⟨"LAX", .abs, 4, .none, false, fun ll hh => .laxAbs (mkWord hh ll)⟩]

/-- Row Bx of the opcode map (30 R74). -/
def opRowsB : List OpRow := [
  ⟨"BCS", .rel, 2, .branch, true, fun n _ => .bcs n⟩,
  ⟨"LDA", .izy, 5, .pageCross, true, fun n _ => .ldaIzy n⟩,
  ⟨"JAM", .imp, 0, .none, false, fun _ _ => .jamB2⟩,
  ⟨"LAX", .izy, 5, .pageCross, false, fun n _ => .laxIzy n⟩,
  ⟨"LDY", .zpx, 4, .none, true, fun n _ => .ldyZpx n⟩,
  ⟨"LDA", .zpx, 4, .none, true, fun n _ => .ldaZpx n⟩,
  ⟨"LDX", .zpy, 4, .none, true, fun n _ => .ldxZpy n⟩,
  ⟨"LAX", .zpy, 4, .none, false, fun n _ => .laxZpy n⟩,
  ⟨"CLV", .imp, 2, .none, true, fun _ _ => .clv⟩,
  ⟨"LDA", .aby, 4, .pageCross, true, fun ll hh => .ldaAby (mkWord hh ll)⟩,
  ⟨"TSX", .imp, 2, .none, true, fun _ _ => .tsx⟩,
  ⟨"LAS", .aby, 4, .pageCross, false, fun ll hh => .lasAby (mkWord hh ll)⟩,
  ⟨"LDY", .abx, 4, .pageCross, true, fun ll hh => .ldyAbx (mkWord hh ll)⟩,
  ⟨"LDA", .abx, 4, .pageCross, true, fun ll hh => .ldaAbx (mkWord hh ll)⟩,
  ⟨"LDX", .aby, 4, .pageCross, true, fun ll hh => .ldxAby (mkWord hh ll)⟩,
  ⟨"LAX", .aby, 4, .pageCross, false, fun ll hh => .laxAby (mkWord hh ll)⟩]

/-- Row Cx of the opcode map (30 R74). -/
def opRowsC : List OpRow := [
  ⟨"CPY", .imm, 2, .none, true, fun n _ => .cpyImm n⟩,
  ⟨"CMP", .izx, 6, .none, true, fun n _ => .cmpIzx n⟩,
  ⟨"NOP", .imm, 2, .none, false, fun n _ => .nopImmC2 n⟩,
  ⟨"DCP", .izx, 8, .none, false, fun n _ => .dcpIzx n⟩,
  ⟨"CPY", .zp, 3, .none, true, fun n _ => .cpyZp n⟩,
  ⟨"CMP", .zp, 3, .none, true, fun n _ => .cmpZp n⟩,
  ⟨"DEC", .zp, 5, .none, true, fun n _ => .decZp n⟩,
  ⟨"DCP", .zp, 5, .none, false, fun n _ => .dcpZp n⟩,
  ⟨"INY", .imp, 2, .none, true, fun _ _ => .iny⟩,
  ⟨"CMP", .imm, 2, .none, true, fun n _ => .cmpImm n⟩,
  ⟨"DEX", .imp, 2, .none, true, fun _ _ => .dex⟩,
  ⟨"SBX", .imm, 2, .none, false, fun n _ => .sbxImm n⟩,
  ⟨"CPY", .abs, 4, .none, true, fun ll hh => .cpyAbs (mkWord hh ll)⟩,
  ⟨"CMP", .abs, 4, .none, true, fun ll hh => .cmpAbs (mkWord hh ll)⟩,
  ⟨"DEC", .abs, 6, .none, true, fun ll hh => .decAbs (mkWord hh ll)⟩,
  ⟨"DCP", .abs, 6, .none, false, fun ll hh => .dcpAbs (mkWord hh ll)⟩]

/-- Row Dx of the opcode map (30 R74). -/
def opRowsD : List OpRow := [
  ⟨"BNE", .rel, 2, .branch, true, fun n _ => .bne n⟩,
  ⟨"CMP", .izy, 5, .pageCross, true, fun n _ => .cmpIzy n⟩,
  ⟨"JAM", .imp, 0, .none, false, fun _ _ => .jamD2⟩,
  ⟨"DCP", .izy, 8, .none, false, fun n _ => .dcpIzy n⟩,
  ⟨"NOP", .zpx, 4, .none, false, fun n _ => .nopZpxD4 n⟩,
  ⟨"CMP", .zpx, 4, .none, true, fun n _ => .cmpZpx n⟩,
  ⟨"DEC", .zpx, 6, .none, true, fun n _ => .decZpx n⟩,
  ⟨"DCP", .zpx, 6, .none, false, fun n _ => .dcpZpx n⟩,
  ⟨"CLD", .imp, 2, .none, true, fun _ _ => .cld⟩,
  ⟨"CMP", .aby, 4, .pageCross, true, fun ll hh => .cmpAby (mkWord hh ll)⟩,
  ⟨"NOP", .imp, 2, .none, false, fun _ _ => .nopImpDA⟩,
  ⟨"DCP", .aby, 7, .none, false, fun ll hh => .dcpAby (mkWord hh ll)⟩,
  ⟨"NOP", .abx, 4, .pageCross, false, fun ll hh => .nopAbxDC (mkWord hh ll)⟩,
  ⟨"CMP", .abx, 4, .pageCross, true, fun ll hh => .cmpAbx (mkWord hh ll)⟩,
  ⟨"DEC", .abx, 7, .none, true, fun ll hh => .decAbx (mkWord hh ll)⟩,
  ⟨"DCP", .abx, 7, .none, false, fun ll hh => .dcpAbx (mkWord hh ll)⟩]

/-- Row Ex of the opcode map (30 R74). -/
def opRowsE : List OpRow := [
  ⟨"CPX", .imm, 2, .none, true, fun n _ => .cpxImm n⟩,
  ⟨"SBC", .izx, 6, .none, true, fun n _ => .sbcIzx n⟩,
  ⟨"NOP", .imm, 2, .none, false, fun n _ => .nopImmE2 n⟩,
  ⟨"ISC", .izx, 8, .none, false, fun n _ => .iscIzx n⟩,
  ⟨"CPX", .zp, 3, .none, true, fun n _ => .cpxZp n⟩,
  ⟨"SBC", .zp, 3, .none, true, fun n _ => .sbcZp n⟩,
  ⟨"INC", .zp, 5, .none, true, fun n _ => .incZp n⟩,
  ⟨"ISC", .zp, 5, .none, false, fun n _ => .iscZp n⟩,
  ⟨"INX", .imp, 2, .none, true, fun _ _ => .inx⟩,
  ⟨"SBC", .imm, 2, .none, true, fun n _ => .sbcImm n⟩,
  ⟨"NOP", .imp, 2, .none, true, fun _ _ => .nop⟩,
  ⟨"SBC", .imm, 2, .none, false, fun n _ => .usbcImm n⟩,
  ⟨"CPX", .abs, 4, .none, true, fun ll hh => .cpxAbs (mkWord hh ll)⟩,
  ⟨"SBC", .abs, 4, .none, true, fun ll hh => .sbcAbs (mkWord hh ll)⟩,
  ⟨"INC", .abs, 6, .none, true, fun ll hh => .incAbs (mkWord hh ll)⟩,
  ⟨"ISC", .abs, 6, .none, false, fun ll hh => .iscAbs (mkWord hh ll)⟩]

/-- Row Fx of the opcode map (30 R74). -/
def opRowsF : List OpRow := [
  ⟨"BEQ", .rel, 2, .branch, true, fun n _ => .beq n⟩,
  ⟨"SBC", .izy, 5, .pageCross, true, fun n _ => .sbcIzy n⟩,
  ⟨"JAM", .imp, 0, .none, false, fun _ _ => .jamF2⟩,
  ⟨"ISC", .izy, 8, .none, false, fun n _ => .iscIzy n⟩,
  ⟨"NOP", .zpx, 4, .none, false, fun n _ => .nopZpxF4 n⟩,
  ⟨"SBC", .zpx, 4, .none, true, fun n _ => .sbcZpx n⟩,
  ⟨"INC", .zpx, 6, .none, true, fun n _ => .incZpx n⟩,
  ⟨"ISC", .zpx, 6, .none, false, fun n _ => .iscZpx n⟩,
  ⟨"SED", .imp, 2, .none, true, fun _ _ => .sed⟩,
  ⟨"SBC", .aby, 4, .pageCross, true, fun ll hh => .sbcAby (mkWord hh ll)⟩,
  ⟨"NOP", .imp, 2, .none, false, fun _ _ => .nopImpFA⟩,
  ⟨"ISC", .aby, 7, .none, false, fun ll hh => .iscAby (mkWord hh ll)⟩,
  ⟨"NOP", .abx, 4, .pageCross, false, fun ll hh => .nopAbxFC (mkWord hh ll)⟩,
  ⟨"SBC", .abx, 4, .pageCross, true, fun ll hh => .sbcAbx (mkWord hh ll)⟩,
  ⟨"INC", .abx, 7, .none, true, fun ll hh => .incAbx (mkWord hh ll)⟩,
  ⟨"ISC", .abx, 7, .none, false, fun ll hh => .iscAbx (mkWord hh ll)⟩]

/-- The sixteen rows of the opcode map by the opcode's high nibble (30 R74). -/
def opRowsOf : Nat → List OpRow
  | 0 => opRows0
  | 1 => opRows1
  | 2 => opRows2
  | 3 => opRows3
  | 4 => opRows4
  | 5 => opRows5
  | 6 => opRows6
  | 7 => opRows7
  | 8 => opRows8
  | 9 => opRows9
  | 10 => opRowsA
  | 11 => opRowsB
  | 12 => opRowsC
  | 13 => opRowsD
  | 14 => opRowsE
  | _ => opRowsF

/-- What a lookup past the end of a row of sixteen would give; no opcode does. -/
def opRowPastEnd : OpRow := ⟨"NOP", .imp, 2, .none, true, fun _ _ => .nop⟩

/-- The row an opcode byte selects: `match` is the whole byte (30 R73). -/
def opRow (op : Byte) : OpRow :=
  (opRowsOf (op.toNat / 16)).getD (op.toNat % 16) opRowPastEnd

/-- The length of the instruction an opcode begins (30 R76). -/
def opLength (op : Byte) : Nat := modeBytes (opRow op).mode

/-- The instruction of an opcode and the two bytes that follow it; bytes beyond its length are not used. -/
def assemble (op b1 b2 : Byte) : Instr := (opRow op).build b1 b2

/-- Why a byte string is no instruction. No opcode is ever refused (30 R77). -/
inductive DecodeError where
  /-- There is no opcode byte. -/
  | noBytes
  /-- The bytes end before the operand of this opcode does. -/
  | truncated (op : Byte)
deriving DecidableEq, Repr

/-- Read one instruction from a byte string, and give the bytes after it (30 R70, R73). -/
def decode : List Byte → Except DecodeError (Instr × List Byte)
  | [] => .error .noBytes
  | op :: rest =>
    match opLength op, rest with
    | 1, _ => .ok (assemble op 0 0, rest)
    | 2, b1 :: more => .ok (assemble op b1 0, more)
    | 3, b1 :: b2 :: more => .ok (assemble op b1 b2, more)
    | _, _ => .error (.truncated op)

/-- Byte `k` of a number whose bits count on from byte to byte, as spec/opcode_table.json numbers them. -/
def tableByte (w k : Nat) : Byte := BitVec.ofNat 8 (w >>> (8 * k))

/-- The bytes of a table word in memory order, the bits above `nbits` zero, up to the longest
instruction. -/
def tableBytes (nbits w : Nat) : List Byte :=
  let word := w % 2 ^ nbits
  [tableByte word 0, tableByte word 1, tableByte word 2]

/-- The instruction the decoder reads from a word of the opcode table. -/
def decodeTableWord (nbits w : Nat) : Option Instr :=
  if wellFormedTableWord nbits w then
    match decode (tableBytes nbits w) with
    | .ok (i, _) => some i
    | .error _ => none
  else none

/-- The bytes of an instruction in memory order: the opcode, then its operand, low byte first (30 R70,
R72, R74). -/
def encode : Instr → List Byte
  | .brk => [0x00]
  | .oraIzx n => [0x01, n]
  | .jam02 => [0x02]
  | .sloIzx n => [0x03, n]
  | .nopZp04 n => [0x04, n]
  | .oraZp n => [0x05, n]
  | .aslZp n => [0x06, n]
  | .sloZp n => [0x07, n]
  | .php => [0x08]
  | .oraImm n => [0x09, n]
  | .aslAcc => [0x0A]
  | .anc0B n => [0x0B, n]
  | .nopAbs0C addr => [0x0C, loByte addr, hiByte addr]
  | .oraAbs addr => [0x0D, loByte addr, hiByte addr]
  | .aslAbs addr => [0x0E, loByte addr, hiByte addr]
  | .sloAbs addr => [0x0F, loByte addr, hiByte addr]
  | .bpl n => [0x10, n]
  | .oraIzy n => [0x11, n]
  | .jam12 => [0x12]
  | .sloIzy n => [0x13, n]
  | .nopZpx14 n => [0x14, n]
  | .oraZpx n => [0x15, n]
  | .aslZpx n => [0x16, n]
  | .sloZpx n => [0x17, n]
  | .clc => [0x18]
  | .oraAby addr => [0x19, loByte addr, hiByte addr]
  | .nopImp1A => [0x1A]
  | .sloAby addr => [0x1B, loByte addr, hiByte addr]
  | .nopAbx1C addr => [0x1C, loByte addr, hiByte addr]
  | .oraAbx addr => [0x1D, loByte addr, hiByte addr]
  | .aslAbx addr => [0x1E, loByte addr, hiByte addr]
  | .sloAbx addr => [0x1F, loByte addr, hiByte addr]
  | .jsrAbs addr => [0x20, loByte addr, hiByte addr]
  | .andIzx n => [0x21, n]
  | .jam22 => [0x22]
  | .rlaIzx n => [0x23, n]
  | .bitZp n => [0x24, n]
  | .andZp n => [0x25, n]
  | .rolZp n => [0x26, n]
  | .rlaZp n => [0x27, n]
  | .plp => [0x28]
  | .andImm n => [0x29, n]
  | .rolAcc => [0x2A]
  | .anc2B n => [0x2B, n]
  | .bitAbs addr => [0x2C, loByte addr, hiByte addr]
  | .andAbs addr => [0x2D, loByte addr, hiByte addr]
  | .rolAbs addr => [0x2E, loByte addr, hiByte addr]
  | .rlaAbs addr => [0x2F, loByte addr, hiByte addr]
  | .bmi n => [0x30, n]
  | .andIzy n => [0x31, n]
  | .jam32 => [0x32]
  | .rlaIzy n => [0x33, n]
  | .nopZpx34 n => [0x34, n]
  | .andZpx n => [0x35, n]
  | .rolZpx n => [0x36, n]
  | .rlaZpx n => [0x37, n]
  | .sec => [0x38]
  | .andAby addr => [0x39, loByte addr, hiByte addr]
  | .nopImp3A => [0x3A]
  | .rlaAby addr => [0x3B, loByte addr, hiByte addr]
  | .nopAbx3C addr => [0x3C, loByte addr, hiByte addr]
  | .andAbx addr => [0x3D, loByte addr, hiByte addr]
  | .rolAbx addr => [0x3E, loByte addr, hiByte addr]
  | .rlaAbx addr => [0x3F, loByte addr, hiByte addr]
  | .rti => [0x40]
  | .eorIzx n => [0x41, n]
  | .jam42 => [0x42]
  | .sreIzx n => [0x43, n]
  | .nopZp44 n => [0x44, n]
  | .eorZp n => [0x45, n]
  | .lsrZp n => [0x46, n]
  | .sreZp n => [0x47, n]
  | .pha => [0x48]
  | .eorImm n => [0x49, n]
  | .lsrAcc => [0x4A]
  | .alrImm n => [0x4B, n]
  | .jmpAbs addr => [0x4C, loByte addr, hiByte addr]
  | .eorAbs addr => [0x4D, loByte addr, hiByte addr]
  | .lsrAbs addr => [0x4E, loByte addr, hiByte addr]
  | .sreAbs addr => [0x4F, loByte addr, hiByte addr]
  | .bvc n => [0x50, n]
  | .eorIzy n => [0x51, n]
  | .jam52 => [0x52]
  | .sreIzy n => [0x53, n]
  | .nopZpx54 n => [0x54, n]
  | .eorZpx n => [0x55, n]
  | .lsrZpx n => [0x56, n]
  | .sreZpx n => [0x57, n]
  | .cli => [0x58]
  | .eorAby addr => [0x59, loByte addr, hiByte addr]
  | .nopImp5A => [0x5A]
  | .sreAby addr => [0x5B, loByte addr, hiByte addr]
  | .nopAbx5C addr => [0x5C, loByte addr, hiByte addr]
  | .eorAbx addr => [0x5D, loByte addr, hiByte addr]
  | .lsrAbx addr => [0x5E, loByte addr, hiByte addr]
  | .sreAbx addr => [0x5F, loByte addr, hiByte addr]
  | .rts => [0x60]
  | .adcIzx n => [0x61, n]
  | .jam62 => [0x62]
  | .rraIzx n => [0x63, n]
  | .nopZp64 n => [0x64, n]
  | .adcZp n => [0x65, n]
  | .rorZp n => [0x66, n]
  | .rraZp n => [0x67, n]
  | .pla => [0x68]
  | .adcImm n => [0x69, n]
  | .rorAcc => [0x6A]
  | .arrImm n => [0x6B, n]
  | .jmpInd addr => [0x6C, loByte addr, hiByte addr]
  | .adcAbs addr => [0x6D, loByte addr, hiByte addr]
  | .rorAbs addr => [0x6E, loByte addr, hiByte addr]
  | .rraAbs addr => [0x6F, loByte addr, hiByte addr]
  | .bvs n => [0x70, n]
  | .adcIzy n => [0x71, n]
  | .jam72 => [0x72]
  | .rraIzy n => [0x73, n]
  | .nopZpx74 n => [0x74, n]
  | .adcZpx n => [0x75, n]
  | .rorZpx n => [0x76, n]
  | .rraZpx n => [0x77, n]
  | .sei => [0x78]
  | .adcAby addr => [0x79, loByte addr, hiByte addr]
  | .nopImp7A => [0x7A]
  | .rraAby addr => [0x7B, loByte addr, hiByte addr]
  | .nopAbx7C addr => [0x7C, loByte addr, hiByte addr]
  | .adcAbx addr => [0x7D, loByte addr, hiByte addr]
  | .rorAbx addr => [0x7E, loByte addr, hiByte addr]
  | .rraAbx addr => [0x7F, loByte addr, hiByte addr]
  | .nopImm80 n => [0x80, n]
  | .staIzx n => [0x81, n]
  | .nopImm82 n => [0x82, n]
  | .saxIzx n => [0x83, n]
  | .styZp n => [0x84, n]
  | .staZp n => [0x85, n]
  | .stxZp n => [0x86, n]
  | .saxZp n => [0x87, n]
  | .dey => [0x88]
  | .nopImm89 n => [0x89, n]
  | .txa => [0x8A]
  | .aneImm n => [0x8B, n]
  | .styAbs addr => [0x8C, loByte addr, hiByte addr]
  | .staAbs addr => [0x8D, loByte addr, hiByte addr]
  | .stxAbs addr => [0x8E, loByte addr, hiByte addr]
  | .saxAbs addr => [0x8F, loByte addr, hiByte addr]
  | .bcc n => [0x90, n]
  | .staIzy n => [0x91, n]
  | .jam92 => [0x92]
  | .shaIzy n => [0x93, n]
  | .styZpx n => [0x94, n]
  | .staZpx n => [0x95, n]
  | .stxZpy n => [0x96, n]
  | .saxZpy n => [0x97, n]
  | .tya => [0x98]
  | .staAby addr => [0x99, loByte addr, hiByte addr]
  | .txs => [0x9A]
  | .tasAby addr => [0x9B, loByte addr, hiByte addr]
  | .shyAbx addr => [0x9C, loByte addr, hiByte addr]
  | .staAbx addr => [0x9D, loByte addr, hiByte addr]
  | .shxAby addr => [0x9E, loByte addr, hiByte addr]
  | .shaAby addr => [0x9F, loByte addr, hiByte addr]
  | .ldyImm n => [0xA0, n]
  | .ldaIzx n => [0xA1, n]
  | .ldxImm n => [0xA2, n]
  | .laxIzx n => [0xA3, n]
  | .ldyZp n => [0xA4, n]
  | .ldaZp n => [0xA5, n]
  | .ldxZp n => [0xA6, n]
  | .laxZp n => [0xA7, n]
  | .tay => [0xA8]
  | .ldaImm n => [0xA9, n]
  | .tax => [0xAA]
  | .lxaImm n => [0xAB, n]
  | .ldyAbs addr => [0xAC, loByte addr, hiByte addr]
  | .ldaAbs addr => [0xAD, loByte addr, hiByte addr]
  | .ldxAbs addr => [0xAE, loByte addr, hiByte addr]
  | .laxAbs addr => [0xAF, loByte addr, hiByte addr]
  | .bcs n => [0xB0, n]
  | .ldaIzy n => [0xB1, n]
  | .jamB2 => [0xB2]
  | .laxIzy n => [0xB3, n]
  | .ldyZpx n => [0xB4, n]
  | .ldaZpx n => [0xB5, n]
  | .ldxZpy n => [0xB6, n]
  | .laxZpy n => [0xB7, n]
  | .clv => [0xB8]
  | .ldaAby addr => [0xB9, loByte addr, hiByte addr]
  | .tsx => [0xBA]
  | .lasAby addr => [0xBB, loByte addr, hiByte addr]
  | .ldyAbx addr => [0xBC, loByte addr, hiByte addr]
  | .ldaAbx addr => [0xBD, loByte addr, hiByte addr]
  | .ldxAby addr => [0xBE, loByte addr, hiByte addr]
  | .laxAby addr => [0xBF, loByte addr, hiByte addr]
  | .cpyImm n => [0xC0, n]
  | .cmpIzx n => [0xC1, n]
  | .nopImmC2 n => [0xC2, n]
  | .dcpIzx n => [0xC3, n]
  | .cpyZp n => [0xC4, n]
  | .cmpZp n => [0xC5, n]
  | .decZp n => [0xC6, n]
  | .dcpZp n => [0xC7, n]
  | .iny => [0xC8]
  | .cmpImm n => [0xC9, n]
  | .dex => [0xCA]
  | .sbxImm n => [0xCB, n]
  | .cpyAbs addr => [0xCC, loByte addr, hiByte addr]
  | .cmpAbs addr => [0xCD, loByte addr, hiByte addr]
  | .decAbs addr => [0xCE, loByte addr, hiByte addr]
  | .dcpAbs addr => [0xCF, loByte addr, hiByte addr]
  | .bne n => [0xD0, n]
  | .cmpIzy n => [0xD1, n]
  | .jamD2 => [0xD2]
  | .dcpIzy n => [0xD3, n]
  | .nopZpxD4 n => [0xD4, n]
  | .cmpZpx n => [0xD5, n]
  | .decZpx n => [0xD6, n]
  | .dcpZpx n => [0xD7, n]
  | .cld => [0xD8]
  | .cmpAby addr => [0xD9, loByte addr, hiByte addr]
  | .nopImpDA => [0xDA]
  | .dcpAby addr => [0xDB, loByte addr, hiByte addr]
  | .nopAbxDC addr => [0xDC, loByte addr, hiByte addr]
  | .cmpAbx addr => [0xDD, loByte addr, hiByte addr]
  | .decAbx addr => [0xDE, loByte addr, hiByte addr]
  | .dcpAbx addr => [0xDF, loByte addr, hiByte addr]
  | .cpxImm n => [0xE0, n]
  | .sbcIzx n => [0xE1, n]
  | .nopImmE2 n => [0xE2, n]
  | .iscIzx n => [0xE3, n]
  | .cpxZp n => [0xE4, n]
  | .sbcZp n => [0xE5, n]
  | .incZp n => [0xE6, n]
  | .iscZp n => [0xE7, n]
  | .inx => [0xE8]
  | .sbcImm n => [0xE9, n]
  | .nop => [0xEA]
  | .usbcImm n => [0xEB, n]
  | .cpxAbs addr => [0xEC, loByte addr, hiByte addr]
  | .sbcAbs addr => [0xED, loByte addr, hiByte addr]
  | .incAbs addr => [0xEE, loByte addr, hiByte addr]
  | .iscAbs addr => [0xEF, loByte addr, hiByte addr]
  | .beq n => [0xF0, n]
  | .sbcIzy n => [0xF1, n]
  | .jamF2 => [0xF2]
  | .iscIzy n => [0xF3, n]
  | .nopZpxF4 n => [0xF4, n]
  | .sbcZpx n => [0xF5, n]
  | .incZpx n => [0xF6, n]
  | .iscZpx n => [0xF7, n]
  | .sed => [0xF8]
  | .sbcAby addr => [0xF9, loByte addr, hiByte addr]
  | .nopImpFA => [0xFA]
  | .iscAby addr => [0xFB, loByte addr, hiByte addr]
  | .nopAbxFC addr => [0xFC, loByte addr, hiByte addr]
  | .sbcAbx addr => [0xFD, loByte addr, hiByte addr]
  | .incAbx addr => [0xFE, loByte addr, hiByte addr]
  | .iscAbx addr => [0xFF, loByte addr, hiByte addr]

/-- The opcode byte of an instruction. -/
def opcodeOf (i : Instr) : Byte := (encode i).headD 0

end Sys2Proof
end

