-- ==== Sys2Proof/Machine/Fetch.lean ====
section
/-! DEFINITION. Fetching an instruction's bytes at PC (40 R90), and placing an instruction where the next
tick fetches it. -/

namespace Sys2Proof.Machine

/-- The opcode at PC, then the operand bytes its length asks for, at `PC + 1` and `PC + 2` modulo `2^16`
(40 R90, 30 R76). PC itself is not moved here. -/
def fetchInstr (s : State) : Res (Instr × State) :=
  andThen (memRead s.pc s) fun op =>
  if opLength op.1 = 1 then .next (assemble op.1 0 0, op.2)
  else
    andThen (memRead (s.pc + 1) op.2) fun b1 =>
    if opLength op.1 = 2 then .next (assemble op.1 b1.1 0, b1.2)
    else
      andThen (memRead (s.pc + 2) b1.2) fun b2 =>
      .next (assemble op.1 b1.1 b2.1, b2.2)

/-- Store a byte in the plain memory an address selects, as loading an image does: PRG ROM too. An address
of a device, of the test region or of unmapped space holds nothing. -/
def placeByte (addr : Word) (b : Byte) (s : State) : State :=
  match memKey s addr with
  | some key => { s with mem := s.mem.write key b }
  | none => s

/-- Store bytes at rising addresses. -/
def placeBytes : Word → List Byte → State → State
  | _, [], s => s
  | addr, b :: rest, s => placeBytes (addr + 1) rest (placeByte addr b s)

/-- `s` about to fetch the instruction of a table word: its bytes stand at PC, and the very next tick is a
boundary tick that takes no interrupt (log entry 23). -/
def placeInstr (nbits w : Nat) (s : State) : State :=
  placeBytes s.pc (tableBytes nbits w)
    { s with stall := 0, halted := false, nmiPending := false, irqLevel := false }

end Sys2Proof.Machine
end

