-- ==== Sys2Proof/Machine/Tick.lean ====
section
/-! DEFINITION. One tick of the CPU (60 R250-R252). -/

namespace Sys2Proof.Machine

/-- Fetch the instruction at PC and execute it completely (60 R252 steps 3 to 5). -/
def fetchExec (s : State) : Res State := andThen (fetchInstr s) fun r => exec r.1 r.2

/-- A boundary tick: poll, enter an interrupt if one is taken, then fetch and execute (60 R252). -/
def boundaryTick (s : State) : Res State := andThen (poll s) fetchExec

/-- `tick()` (60 R250), in the precedence of 60 R265. A halted machine answers `Lockup`
and stays as it is (60 R261). -/
def tick (s : State) : Res State :=
  if s.halted then .fault (.lockup s)
  else if 0 < s.stall then .next (stallTick s)
  else boundaryTick s

end Sys2Proof.Machine
end

