-- ==== Sys2Proof/Machine/Step.lean ====
section
/-! DEFINITION. The machine's step is the CPU's tick; see Machine/Tick.lean and Machine/Fetch.lean. -/

namespace Sys2Proof.Machine

/-- One tick (60 R250). -/
def step (s : State) : Host.Outcome State Fault Refusal := tick s

/-- `s` with the instruction of a table word stored where the next step fetches it. -/
def State.withFetchWord (s : State) (nbits w : Nat) : State := placeInstr nbits w s

end Sys2Proof.Machine
end

