-- ==== Sys2Proof/Machine/Inputs.lean ====
section
/-! DEFINITION. What the outside can do to the machine between two ticks (60 R277, 20 R60): set the NMI
latch, drive the inputs, load a cartridge image. A tick itself writes none of the inputs. -/

namespace Sys2Proof.Machine

/-- A source outside the CPU sets the NMI latch; setting it again has no further effect (60 R256). -/
def latchNmi (s : State) : State := { s with nmiPending := true }

/-- The APU drives the IRQ level (10 R34). -/
def driveIrq (level : Bool) (s : State) : State := { s with irqLevel := level }

/-- The PPU begins or ends the condition under which a PPUDATA access is a violation (20 R53). -/
def driveRendering (on : Bool) (s : State) : State := { s with ppuRendering := on }

/-- The device responders change which faults they answer with (60 R262). -/
def driveDevFaults (faults : List DevFault) (s : State) : State := { s with devFaults := faults }

/-- The cartridge's mapper is another block, in this state; or that block changes its state (20 R47, R60). -/
def driveMapper (state : Nat) (s : State) : State := { s with mapper := .other state }

/-- Write a list of bytes at rising keys. -/
def loadAt : Nat → List Byte → Memory → Memory
  | _, [], m => m
  | key, b :: rest, m => loadAt (key + 1) rest (m.write key b)

/-- Load a cartridge image as the NROM instance's PRG (20 R47): what was there before is gone. -/
def loadImage (image : List Byte) (s : State) : State :=
  { s with
    mapper := .nrom
    prgSize := image.length
    mem := loadAt 0x8000 image (s.mem.filter fun cell => decide (cell.1 < 0x8000)) }

end Sys2Proof.Machine
end

