-- ==== Sys2Proof/Safety.lean ====
section
/-! DEFINITION. The terms claims are stated in: the well-formed states, the states a machine with its
environment can reach, what it is for an access to succeed, and the trace tuple. -/

namespace Sys2Proof.Machine

/-- A key of plain memory that exists: internal RAM, PRG RAM, or an offset below |PRG| (20 R46, R47). -/
def physicalKey (prgSize key : Nat) : Bool :=
  decide (key < 0x800) || (decide (0x6000 ≤ key) && decide (key < 0x8000 + prgSize))

/-- The invariant of the machine: memory is canonical and lists only bytes that exist, there is a
cartridge image that fits cartridge space, and a locked-up machine has no stall queued. -/
def State.wf (s : State) : Bool :=
  s.mem.wf && s.mem.all (fun cell => physicalKey s.prgSize cell.1) &&
    decide (0 < s.prgSize) && decide (s.prgSize ≤ 0x8000) && (!s.halted || s.stall == 0)

/-- A bus read of `addr` succeeds (20 R44). -/
abbrev Readable (addr : Word) (s : State) : Prop := readFault addr s = none

/-- The fault of a vector's two reads, the lower address first; none where both succeed (60 R259, 44 R183).
Cartridge space answers them, which the NROM instance does without fault (20 R47, R67). -/
def vectorFault (vec : Word) (s : State) : Option Fault :=
  match readFault vec s with
  | some e => some e
  | none => readFault (vec + 1) s

/-- A bus write of `b` to `addr` succeeds, its OAM DMA included (20 R45). -/
abbrev Writable (addr : Word) (b : Byte) (s : State) : Prop := writeFault addr b s = none

/-- The operand of a read-class instruction can be read (40 R103). -/
def OperandReadable (m : Mode) (s : State) : Prop :=
  match m with
  | .imm _ => True
  | .zp _ | .zpx _ | .zpy _ | .izx _ | .izy _ | .abs _ | .abx _ | .aby _ => Readable (effAddr m s) s

/-- The operand value `M` (40 R103); a device's answer is a free value. -/
def operandValue (m : Mode) (s : State) : Byte :=
  match m with
  | .imm n => n
  | .zp _ | .zpx _ | .zpy _ | .izx _ | .izy _ | .abs _ | .abx _ | .aby _ => readByte (effAddr m s) s

/-- The state after the operand is read: a device has seen the read (20 R51). -/
def afterOperand (m : Mode) (s : State) : State :=
  match m with
  | .imm _ => s
  | .zp _ | .zpx _ | .zpy _ | .izx _ | .izy _ | .abs _ | .abx _ | .aby _ => afterRead (effAddr m s) s

/-- A tick that begins at a boundary and takes no interrupt (60 R250, R253). -/
def QuietBoundary (s : State) : Prop :=
  s.halted = false ∧ s.stall = 0 ∧ s.nmiPending = false ∧ (s.i = true ∨ s.irqLevel = false)

/-- `t` is the state a tick from `s` leaves: by `Next`, or by `Lockup` (00 R9, 60 R261). A fault leaves none
(60 R263). -/
def TickLeaves (s t : State) : Prop := step s = .next t ∨ step s = .fault (.lockup t)

/-- `k` ticks in a row, with no input in between, stopping at the first stop (60 R250). -/
def ticks : Nat → State → Res State
  | 0, s => .next s
  | k + 1, s => andThen (step s) (ticks k)

/-- The states of a machine in its environment: from reset, by ticks, a lock-up's state included, by the
inputs that may change between ticks, by loading an image that fits, and by power cycles (60 R277). -/
inductive Reachable : State → Prop where
  | reset : Reachable State.reset
  | tick {s t : State} : Reachable s → step s = .next t → Reachable t
  | lockup {s t : State} : Reachable s → step s = .fault (.lockup t) → Reachable t
  | nmi {s : State} : Reachable s → Reachable (latchNmi s)
  | irq {s : State} (level : Bool) : Reachable s → Reachable (driveIrq level s)
  | rendering {s : State} (on : Bool) : Reachable s → Reachable (driveRendering on s)
  | devFaults {s : State} (faults : List DevFault) : Reachable s → Reachable (driveDevFaults faults s)
  | mapper {s : State} (state : Nat) : Reachable s → Reachable (driveMapper state s)
  | image {s : State} (prg : List Byte) :
      Reachable s → 0 < prg.length → prg.length ≤ 0x8000 → Reachable (loadImage prg s)
  | power {s t : State} (p : PowerOn) : Reachable s → powerOn p s = .next t → Reachable t

/-- The trace tuple observed at a boundary tick (60 R274, 70 R293): P is `Pack(0)` (10 R24). -/
structure Trace where
  pc : Word
  a : Byte
  x : Byte
  y : Byte
  p : Byte
  sp : Byte
  cycles : Nat
deriving DecidableEq, Repr

/-- The observation of a state (70 R293). -/
def traceOf (s : State) : Trace where
  pc := s.pc
  a := s.a
  x := s.x
  y := s.y
  p := pack false s
  sp := s.sp
  cycles := s.cycles

end Sys2Proof.Machine
end

