-- ==== Sys2Proof/Certificates/Slice0/Forms.lean ====
section
/-! DEFINITION. What the statements are written with: the forms of each instruction as the spec lists them,
and the shapes of rule that hold for every form of a list. Nothing here is used by the machine. -/

namespace Sys2Proof.Forms

open Sys2Proof.Machine

/-- A form of an instruction as its rule's Encoding line gives it: opcode, base cycles, whether a page
crossing costs one more (`+p`), the instruction, its addressing mode with its operand. -/
structure Form where
  op : Byte
  base : Nat
  plusP : Bool
  instr : Instr
  mode : Mode
deriving DecidableEq, Repr

/-- The cost of a form: base cycles, and one more for a page crossing where the form pays it (60 R254). -/
def Form.cost (f : Form) (s : State) : Nat :=
  f.base + if f.plusP && pageCross f.mode s then 1 else 0

/-- Where the end of an instruction of `len` bytes and `cost` cycles leaves PC, `stall` and `cycles` when
nothing else writes PC (40 R91, 60 R250, R255). -/
def finish (len : Word) (cost : Nat) (s : State) : State :=
  { s with pc := s.pc + len, stall := s.stall + (cost - 1), cycles := s.cycles + 1 }

/-- The rule of a read-class instruction, for every form of a list: its opcode; when the operand can be
read, the next state is the one after that read and nothing else, with `eff` applied to the operand
value; when it cannot, the tick ends in the bus fault (40 R103, R106). -/
def ReadRule (forms : Byte → Word → List Form) (eff : Byte → State → State) : Prop :=
  ∀ (s : State) (n : Byte) (w : Word) (f : Form), f ∈ forms n w →
    opcodeOf f.instr = f.op ∧
    (OperandReadable f.mode s →
      exec f.instr s = .next (eff (operandValue f.mode s)
        (finish (modeLength f.mode) (f.cost s) (afterOperand f.mode s)))) ∧
    (¬ OperandReadable f.mode s →
      ∃ e, readFault (effAddr f.mode s) s = some e ∧ exec f.instr s = .fault e)

/-- The rule of a store-class instruction, for every form of a list: its opcode; when the write succeeds,
the next state is the one after exactly that write; when it does not, the tick ends in the bus fault
(40 R105, R106). The last argument of `afterWrite`'s write cycle is 20 R55's. -/
def StoreRule (forms : Byte → Word → List Form) (value : State → Byte) : Prop :=
  ∀ (s : State) (n : Byte) (w : Word) (f : Form), f ∈ forms n w →
    opcodeOf f.instr = f.op ∧
    (Writable (effAddr f.mode s) (value s) s →
      exec f.instr s = .next (finish (modeLength f.mode) f.base
        (afterWrite (s.cycles + s.stall + (f.base - 1)) (effAddr f.mode s) (value s) s))) ∧
    (∀ e, writeFault (effAddr f.mode s) (value s) s = some e → exec f.instr s = .fault e)

/-- The rule of a read-modify-write instruction on memory, for every form of a list: its opcode; when the
read of `v` and the write of `r = result v C` succeed, the next state is the one after exactly those
two accesses, with `eff v r` applied; otherwise the tick ends in the first fault (40 R104, R106). -/
def RmwRule (forms : Byte → Word → List Form) (result : Byte → Bool → Byte)
    (eff : Byte → Byte → State → State) : Prop :=
  ∀ (s : State) (n : Byte) (w : Word) (f : Form), f ∈ forms n w →
    opcodeOf f.instr = f.op ∧
    ∀ addr old r, addr = effAddr f.mode s → old = readByte addr s → r = result old s.c →
      (Readable addr s → Writable addr r (afterRead addr s) →
        exec f.instr s = .next (eff old r (finish (modeLength f.mode) f.base
          (afterWrite (s.cycles + s.stall + (f.base - 1)) addr r (afterRead addr s))))) ∧
      (∀ e, readFault addr s = some e → exec f.instr s = .fault e) ∧
      (∀ e, readFault addr s = none → writeFault addr r (afterRead addr s) = some e →
        exec f.instr s = .fault e)

/-- The rule of a read-class instruction whose only mode is immediate: its opcode and its next state, for
every operand byte and with no condition (40 R94, R103). -/
def ImmediateRule (op : Byte) (instr : Byte → Instr) (eff : Byte → State → State) : Prop :=
  ∀ (s : State) (n : Byte), opcodeOf (instr n) = op ∧ exec (instr n) s = .next (eff n (finish 2 2 s))

/-- The rule of a one-byte instruction that makes no access beyond its fetch, or only accesses to the
stack page: its opcode and its next state, with no condition (40 R92, R93). -/
def OneByteRule (op : Byte) (instr : Instr) (cost : Nat) (eff : State → State) : Prop :=
  opcodeOf instr = op ∧ ∀ s : State, exec instr s = .next (eff (finish 1 cost s))

/-- The rule of a conditional branch (44 R170): never taken or taken, it completes. -/
def BranchRule (op : Byte) (instr : Byte → Instr) (cond : State → Bool) : Prop :=
  ∀ (s : State) (n : Byte), opcodeOf (instr n) = op ∧
    (cond s = false → exec (instr n) s = .next (finish 2 2 s)) ∧
    (cond s = true → ∀ target, target = s.pc + 2 + n.signExtend 16 →
      exec (instr n) s = .next { finish 2
        (if hiByte (s.pc + 2) = hiByte target then 3 else 4) s with pc := target })

/-- The rule of SHA, SHX, SHY and TAS under `SH_POLICY = standard` (46 R225-R228), for every form of a list:
`pre` is TAS's write of S, `reg` the registers ANDed; the stored value is `reg & (H + 1)`, and a page
crossing replaces the address's high byte by the value. -/
def ShRule (forms : Byte → Word → List Form) (pre : State → State) (reg : State → Byte) : Prop :=
  ∀ (s : State) (n : Byte) (w : Word) (f : Form), f ∈ forms n w →
    opcodeOf f.instr = f.op ∧
    ∀ v addr, v = reg (pre s) &&& (hiByte (baseAddr f.mode s) + 1) →
      addr = (if hiByte (baseAddr f.mode s) = hiByte (effAddr f.mode s) then effAddr f.mode s
        else mkWord v (loByte (effAddr f.mode s))) →
      (Writable addr v s →
        exec f.instr s = .next (finish (modeLength f.mode) f.base
          (afterWrite (s.cycles + s.stall + (f.base - 1)) addr v (pre s)))) ∧
      (∀ e, writeFault addr v s = some e → exec f.instr s = .fault e)

/-- The frame of an unstable store: no byte of plain memory changes but the one its own address selects, which is
computed from the value stored (46 R225). -/
def ShFrame (forms : Byte → Word → List Form) (reg : State → Byte) : Prop :=
  ∀ (s t : State) (n : Byte) (w : Word) (f : Form), f ∈ forms n w → exec f.instr s = .next t →
    ∀ key, memKey s (shAddr f.mode (reg s &&& (hiByte (baseAddr f.mode s) + 1)) s) ≠ some key →
      t.mem.read key = s.mem.read key

/-- The forms of LDA (R110). -/
def ldaForms (n : Byte) (w : Word) : List Form :=
  [⟨0xA1, 6, false, .ldaIzx n, .izx n⟩,
   ⟨0xA5, 3, false, .ldaZp n, .zp n⟩,
   ⟨0xA9, 2, false, .ldaImm n, .imm n⟩,
   ⟨0xAD, 4, false, .ldaAbs w, .abs w⟩,
   ⟨0xB1, 5, true, .ldaIzy n, .izy n⟩,
   ⟨0xB5, 4, false, .ldaZpx n, .zpx n⟩,
   ⟨0xB9, 4, true, .ldaAby w, .aby w⟩,
   ⟨0xBD, 4, true, .ldaAbx w, .abx w⟩]

/-- The forms of LDX (R111). -/
def ldxForms (n : Byte) (w : Word) : List Form :=
  [⟨0xA2, 2, false, .ldxImm n, .imm n⟩,
   ⟨0xA6, 3, false, .ldxZp n, .zp n⟩,
   ⟨0xAE, 4, false, .ldxAbs w, .abs w⟩,
   ⟨0xB6, 4, false, .ldxZpy n, .zpy n⟩,
   ⟨0xBE, 4, true, .ldxAby w, .aby w⟩]

/-- The forms of LDY (R112). -/
def ldyForms (n : Byte) (w : Word) : List Form :=
  [⟨0xA0, 2, false, .ldyImm n, .imm n⟩,
   ⟨0xA4, 3, false, .ldyZp n, .zp n⟩,
   ⟨0xAC, 4, false, .ldyAbs w, .abs w⟩,
   ⟨0xB4, 4, false, .ldyZpx n, .zpx n⟩,
   ⟨0xBC, 4, true, .ldyAbx w, .abx w⟩]

/-- The forms of STA (R113). -/
def staForms (n : Byte) (w : Word) : List Form :=
  [⟨0x81, 6, false, .staIzx n, .izx n⟩,
   ⟨0x85, 3, false, .staZp n, .zp n⟩,
   ⟨0x8D, 4, false, .staAbs w, .abs w⟩,
   ⟨0x91, 6, false, .staIzy n, .izy n⟩,
   ⟨0x95, 4, false, .staZpx n, .zpx n⟩,
   ⟨0x99, 5, false, .staAby w, .aby w⟩,
   ⟨0x9D, 5, false, .staAbx w, .abx w⟩]

/-- The forms of STX (R114). -/
def stxForms (n : Byte) (w : Word) : List Form :=
  [⟨0x86, 3, false, .stxZp n, .zp n⟩,
   ⟨0x8E, 4, false, .stxAbs w, .abs w⟩,
   ⟨0x96, 4, false, .stxZpy n, .zpy n⟩]

/-- The forms of STY (R115). -/
def styForms (n : Byte) (w : Word) : List Form :=
  [⟨0x84, 3, false, .styZp n, .zp n⟩,
   ⟨0x8C, 4, false, .styAbs w, .abs w⟩,
   ⟨0x94, 4, false, .styZpx n, .zpx n⟩]

/-- The forms of ADC (R131). -/
def adcForms (n : Byte) (w : Word) : List Form :=
  [⟨0x61, 6, false, .adcIzx n, .izx n⟩,
   ⟨0x65, 3, false, .adcZp n, .zp n⟩,
   ⟨0x69, 2, false, .adcImm n, .imm n⟩,
   ⟨0x6D, 4, false, .adcAbs w, .abs w⟩,
   ⟨0x71, 5, true, .adcIzy n, .izy n⟩,
   ⟨0x75, 4, false, .adcZpx n, .zpx n⟩,
   ⟨0x79, 4, true, .adcAby w, .aby w⟩,
   ⟨0x7D, 4, true, .adcAbx w, .abx w⟩]

/-- The forms of SBC (R132). -/
def sbcForms (n : Byte) (w : Word) : List Form :=
  [⟨0xE1, 6, false, .sbcIzx n, .izx n⟩,
   ⟨0xE5, 3, false, .sbcZp n, .zp n⟩,
   ⟨0xE9, 2, false, .sbcImm n, .imm n⟩,
   ⟨0xED, 4, false, .sbcAbs w, .abs w⟩,
   ⟨0xF1, 5, true, .sbcIzy n, .izy n⟩,
   ⟨0xF5, 4, false, .sbcZpx n, .zpx n⟩,
   ⟨0xF9, 4, true, .sbcAby w, .aby w⟩,
   ⟨0xFD, 4, true, .sbcAbx w, .abx w⟩]

/-- The forms of AND (R133). -/
def andForms (n : Byte) (w : Word) : List Form :=
  [⟨0x21, 6, false, .andIzx n, .izx n⟩,
   ⟨0x25, 3, false, .andZp n, .zp n⟩,
   ⟨0x29, 2, false, .andImm n, .imm n⟩,
   ⟨0x2D, 4, false, .andAbs w, .abs w⟩,
   ⟨0x31, 5, true, .andIzy n, .izy n⟩,
   ⟨0x35, 4, false, .andZpx n, .zpx n⟩,
   ⟨0x39, 4, true, .andAby w, .aby w⟩,
   ⟨0x3D, 4, true, .andAbx w, .abx w⟩]

/-- The forms of ORA (R134). -/
def oraForms (n : Byte) (w : Word) : List Form :=
  [⟨0x01, 6, false, .oraIzx n, .izx n⟩,
   ⟨0x05, 3, false, .oraZp n, .zp n⟩,
   ⟨0x09, 2, false, .oraImm n, .imm n⟩,
   ⟨0x0D, 4, false, .oraAbs w, .abs w⟩,
   ⟨0x11, 5, true, .oraIzy n, .izy n⟩,
   ⟨0x15, 4, false, .oraZpx n, .zpx n⟩,
   ⟨0x19, 4, true, .oraAby w, .aby w⟩,
   ⟨0x1D, 4, true, .oraAbx w, .abx w⟩]

/-- The forms of EOR (R135). -/
def eorForms (n : Byte) (w : Word) : List Form :=
  [⟨0x41, 6, false, .eorIzx n, .izx n⟩,
   ⟨0x45, 3, false, .eorZp n, .zp n⟩,
   ⟨0x49, 2, false, .eorImm n, .imm n⟩,
   ⟨0x4D, 4, false, .eorAbs w, .abs w⟩,
   ⟨0x51, 5, true, .eorIzy n, .izy n⟩,
   ⟨0x55, 4, false, .eorZpx n, .zpx n⟩,
   ⟨0x59, 4, true, .eorAby w, .aby w⟩,
   ⟨0x5D, 4, true, .eorAbx w, .abx w⟩]

/-- The forms of BIT (R136). -/
def bitForms (n : Byte) (w : Word) : List Form :=
  [⟨0x24, 3, false, .bitZp n, .zp n⟩,
   ⟨0x2C, 4, false, .bitAbs w, .abs w⟩]

/-- The forms of CMP (R138). -/
def cmpForms (n : Byte) (w : Word) : List Form :=
  [⟨0xC1, 6, false, .cmpIzx n, .izx n⟩,
   ⟨0xC5, 3, false, .cmpZp n, .zp n⟩,
   ⟨0xC9, 2, false, .cmpImm n, .imm n⟩,
   ⟨0xCD, 4, false, .cmpAbs w, .abs w⟩,
   ⟨0xD1, 5, true, .cmpIzy n, .izy n⟩,
   ⟨0xD5, 4, false, .cmpZpx n, .zpx n⟩,
   ⟨0xD9, 4, true, .cmpAby w, .aby w⟩,
   ⟨0xDD, 4, true, .cmpAbx w, .abx w⟩]

/-- The forms of CPX (R139). -/
def cpxForms (n : Byte) (w : Word) : List Form :=
  [⟨0xE0, 2, false, .cpxImm n, .imm n⟩,
   ⟨0xE4, 3, false, .cpxZp n, .zp n⟩,
   ⟨0xEC, 4, false, .cpxAbs w, .abs w⟩]

/-- The forms of CPY (R140). -/
def cpyForms (n : Byte) (w : Word) : List Form :=
  [⟨0xC0, 2, false, .cpyImm n, .imm n⟩,
   ⟨0xC4, 3, false, .cpyZp n, .zp n⟩,
   ⟨0xCC, 4, false, .cpyAbs w, .abs w⟩]

/-- The forms of INC (R141). -/
def incForms (n : Byte) (w : Word) : List Form :=
  [⟨0xE6, 5, false, .incZp n, .zp n⟩,
   ⟨0xEE, 6, false, .incAbs w, .abs w⟩,
   ⟨0xF6, 6, false, .incZpx n, .zpx n⟩,
   ⟨0xFE, 7, false, .incAbx w, .abx w⟩]

/-- The forms of DEC (R142). -/
def decForms (n : Byte) (w : Word) : List Form :=
  [⟨0xC6, 5, false, .decZp n, .zp n⟩,
   ⟨0xCE, 6, false, .decAbs w, .abs w⟩,
   ⟨0xD6, 6, false, .decZpx n, .zpx n⟩,
   ⟨0xDE, 7, false, .decAbx w, .abx w⟩]

/-- The forms of ASL with an operand (R160). -/
def aslForms (n : Byte) (w : Word) : List Form :=
  [⟨0x06, 5, false, .aslZp n, .zp n⟩,
   ⟨0x0E, 6, false, .aslAbs w, .abs w⟩,
   ⟨0x16, 6, false, .aslZpx n, .zpx n⟩,
   ⟨0x1E, 7, false, .aslAbx w, .abx w⟩]

/-- The forms of LSR with an operand (R161). -/
def lsrForms (n : Byte) (w : Word) : List Form :=
  [⟨0x46, 5, false, .lsrZp n, .zp n⟩,
   ⟨0x4E, 6, false, .lsrAbs w, .abs w⟩,
   ⟨0x56, 6, false, .lsrZpx n, .zpx n⟩,
   ⟨0x5E, 7, false, .lsrAbx w, .abx w⟩]

/-- The forms of ROL with an operand (R162). -/
def rolForms (n : Byte) (w : Word) : List Form :=
  [⟨0x26, 5, false, .rolZp n, .zp n⟩,
   ⟨0x2E, 6, false, .rolAbs w, .abs w⟩,
   ⟨0x36, 6, false, .rolZpx n, .zpx n⟩,
   ⟨0x3E, 7, false, .rolAbx w, .abx w⟩]

/-- The forms of ROR with an operand (R163). -/
def rorForms (n : Byte) (w : Word) : List Form :=
  [⟨0x66, 5, false, .rorZp n, .zp n⟩,
   ⟨0x6E, 6, false, .rorAbs w, .abs w⟩,
   ⟨0x76, 6, false, .rorZpx n, .zpx n⟩,
   ⟨0x7E, 7, false, .rorAbx w, .abx w⟩]

/-- The forms of NOP with an operand (R232, R233). -/
def nopForms (n : Byte) (w : Word) : List Form :=
  [⟨0x04, 3, false, .nopZp04 n, .zp n⟩,
   ⟨0x0C, 4, false, .nopAbs0C w, .abs w⟩,
   ⟨0x14, 4, false, .nopZpx14 n, .zpx n⟩,
   ⟨0x1C, 4, true, .nopAbx1C w, .abx w⟩,
   ⟨0x34, 4, false, .nopZpx34 n, .zpx n⟩,
   ⟨0x3C, 4, true, .nopAbx3C w, .abx w⟩,
   ⟨0x44, 3, false, .nopZp44 n, .zp n⟩,
   ⟨0x54, 4, false, .nopZpx54 n, .zpx n⟩,
   ⟨0x5C, 4, true, .nopAbx5C w, .abx w⟩,
   ⟨0x64, 3, false, .nopZp64 n, .zp n⟩,
   ⟨0x74, 4, false, .nopZpx74 n, .zpx n⟩,
   ⟨0x7C, 4, true, .nopAbx7C w, .abx w⟩,
   ⟨0x80, 2, false, .nopImm80 n, .imm n⟩,
   ⟨0x82, 2, false, .nopImm82 n, .imm n⟩,
   ⟨0x89, 2, false, .nopImm89 n, .imm n⟩,
   ⟨0xC2, 2, false, .nopImmC2 n, .imm n⟩,
   ⟨0xD4, 4, false, .nopZpxD4 n, .zpx n⟩,
   ⟨0xDC, 4, true, .nopAbxDC w, .abx w⟩,
   ⟨0xE2, 2, false, .nopImmE2 n, .imm n⟩,
   ⟨0xF4, 4, false, .nopZpxF4 n, .zpx n⟩,
   ⟨0xFC, 4, true, .nopAbxFC w, .abx w⟩]

/-- The forms of SLO (R211). -/
def sloForms (n : Byte) (w : Word) : List Form :=
  [⟨0x03, 8, false, .sloIzx n, .izx n⟩,
   ⟨0x07, 5, false, .sloZp n, .zp n⟩,
   ⟨0x0F, 6, false, .sloAbs w, .abs w⟩,
   ⟨0x13, 8, false, .sloIzy n, .izy n⟩,
   ⟨0x17, 6, false, .sloZpx n, .zpx n⟩,
   ⟨0x1B, 7, false, .sloAby w, .aby w⟩,
   ⟨0x1F, 7, false, .sloAbx w, .abx w⟩]

/-- The forms of RLA (R212). -/
def rlaForms (n : Byte) (w : Word) : List Form :=
  [⟨0x23, 8, false, .rlaIzx n, .izx n⟩,
   ⟨0x27, 5, false, .rlaZp n, .zp n⟩,
   ⟨0x2F, 6, false, .rlaAbs w, .abs w⟩,
   ⟨0x33, 8, false, .rlaIzy n, .izy n⟩,
   ⟨0x37, 6, false, .rlaZpx n, .zpx n⟩,
   ⟨0x3B, 7, false, .rlaAby w, .aby w⟩,
   ⟨0x3F, 7, false, .rlaAbx w, .abx w⟩]

/-- The forms of SRE (R213). -/
def sreForms (n : Byte) (w : Word) : List Form :=
  [⟨0x43, 8, false, .sreIzx n, .izx n⟩,
   ⟨0x47, 5, false, .sreZp n, .zp n⟩,
   ⟨0x4F, 6, false, .sreAbs w, .abs w⟩,
   ⟨0x53, 8, false, .sreIzy n, .izy n⟩,
   ⟨0x57, 6, false, .sreZpx n, .zpx n⟩,
   ⟨0x5B, 7, false, .sreAby w, .aby w⟩,
   ⟨0x5F, 7, false, .sreAbx w, .abx w⟩]

/-- The forms of RRA (R214). -/
def rraForms (n : Byte) (w : Word) : List Form :=
  [⟨0x63, 8, false, .rraIzx n, .izx n⟩,
   ⟨0x67, 5, false, .rraZp n, .zp n⟩,
   ⟨0x6F, 6, false, .rraAbs w, .abs w⟩,
   ⟨0x73, 8, false, .rraIzy n, .izy n⟩,
   ⟨0x77, 6, false, .rraZpx n, .zpx n⟩,
   ⟨0x7B, 7, false, .rraAby w, .aby w⟩,
   ⟨0x7F, 7, false, .rraAbx w, .abx w⟩]

/-- The forms of SAX (R215). -/
def saxForms (n : Byte) (w : Word) : List Form :=
  [⟨0x83, 6, false, .saxIzx n, .izx n⟩,
   ⟨0x87, 3, false, .saxZp n, .zp n⟩,
   ⟨0x8F, 4, false, .saxAbs w, .abs w⟩,
   ⟨0x97, 4, false, .saxZpy n, .zpy n⟩]

/-- The forms of LAX (R216). -/
def laxForms (n : Byte) (w : Word) : List Form :=
  [⟨0xA3, 6, false, .laxIzx n, .izx n⟩,
   ⟨0xA7, 3, false, .laxZp n, .zp n⟩,
   ⟨0xAF, 4, false, .laxAbs w, .abs w⟩,
   ⟨0xB3, 5, true, .laxIzy n, .izy n⟩,
   ⟨0xB7, 4, false, .laxZpy n, .zpy n⟩,
   ⟨0xBF, 4, true, .laxAby w, .aby w⟩]

/-- The forms of DCP (R217). -/
def dcpForms (n : Byte) (w : Word) : List Form :=
  [⟨0xC3, 8, false, .dcpIzx n, .izx n⟩,
   ⟨0xC7, 5, false, .dcpZp n, .zp n⟩,
   ⟨0xCF, 6, false, .dcpAbs w, .abs w⟩,
   ⟨0xD3, 8, false, .dcpIzy n, .izy n⟩,
   ⟨0xD7, 6, false, .dcpZpx n, .zpx n⟩,
   ⟨0xDB, 7, false, .dcpAby w, .aby w⟩,
   ⟨0xDF, 7, false, .dcpAbx w, .abx w⟩]

/-- The forms of ISC (R218). -/
def iscForms (n : Byte) (w : Word) : List Form :=
  [⟨0xE3, 8, false, .iscIzx n, .izx n⟩,
   ⟨0xE7, 5, false, .iscZp n, .zp n⟩,
   ⟨0xEF, 6, false, .iscAbs w, .abs w⟩,
   ⟨0xF3, 8, false, .iscIzy n, .izy n⟩,
   ⟨0xF7, 6, false, .iscZpx n, .zpx n⟩,
   ⟨0xFB, 7, false, .iscAby w, .aby w⟩,
   ⟨0xFF, 7, false, .iscAbx w, .abx w⟩]

/-- The forms of SHA (R225). -/
def shaForms (n : Byte) (w : Word) : List Form :=
  [⟨0x93, 6, false, .shaIzy n, .izy n⟩,
   ⟨0x9F, 5, false, .shaAby w, .aby w⟩]

/-- The forms of SHX (R226). -/
def shxForms (_ : Byte) (w : Word) : List Form :=
  [⟨0x9E, 5, false, .shxAby w, .aby w⟩]

/-- The forms of SHY (R227). -/
def shyForms (_ : Byte) (w : Word) : List Form :=
  [⟨0x9C, 5, false, .shyAbx w, .abx w⟩]

/-- The forms of TAS (R228). -/
def tasForms (_ : Byte) (w : Word) : List Form :=
  [⟨0x9B, 5, false, .tasAby w, .aby w⟩]

/-- The forms of LAS (R229). -/
def lasForms (_ : Byte) (w : Word) : List Form :=
  [⟨0xBB, 4, true, .lasAby w, .aby w⟩]

/-- The mnemonic of an instruction's row of the opcode table ($EB's is SBC). -/
def mnemonicOf (i : Instr) : String := (opRow (opcodeOf i)).mnemonic

/-- Whether an instruction is an accumulator form of ASL, LSR, ROL or ROR (40 R93). -/
def accForm (i : Instr) : Bool := (opRow (opcodeOf i)).mode == .acc

/-- 10 R21: the instructions that write A. -/
def writesA (i : Instr) : Bool :=
  accForm i ||
  ["LDA", "PLA", "TXA", "TYA", "ADC", "SBC", "AND", "ORA", "EOR", "SLO", "RLA", "SRE", "RRA", "LAX",
   "ISC", "ANC", "ALR", "ARR", "ANE", "LXA", "LAS"].contains (mnemonicOf i)

/-- 10 R22: the instructions that write X. -/
def writesX (i : Instr) : Bool :=
  ["LDX", "TAX", "TSX", "INX", "DEX", "LAX", "LXA", "SBX", "LAS"].contains (mnemonicOf i)

/-- 10 R22: the instructions that write Y. -/
def writesY (i : Instr) : Bool := ["LDY", "TAY", "INY", "DEY"].contains (mnemonicOf i)

/-- The instructions that write S: TXS (R121), the stack instructions (45), JSR, RTS, BRK and RTI (44), TAS and
LAS (46). -/
def writesS (i : Instr) : Bool :=
  ["TXS", "PHA", "PHP", "PLA", "PLP", "JSR", "RTS", "BRK", "RTI", "TAS", "LAS"].contains (mnemonicOf i)

/-- 10 R26: the instructions that write N; Z has the same writers. -/
def writesNZ (i : Instr) : Bool :=
  ["LDA", "LDX", "LDY", "TAX", "TAY", "TXA", "TYA", "TSX", "ADC", "SBC", "AND", "ORA", "EOR", "BIT", "CMP",
   "CPX", "CPY", "INC", "DEC", "INX", "INY", "DEX", "DEY", "ASL", "LSR", "ROL", "ROR", "PLA", "PLP",
   "RTI", "SLO", "RLA", "SRE", "RRA", "LAX", "DCP", "ISC", "ANC", "ALR", "ARR", "ANE", "LXA", "SBX",
   "LAS"].contains (mnemonicOf i)

/-- 10 R26: the instructions that write V. -/
def writesV (i : Instr) : Bool :=
  ["ADC", "SBC", "RRA", "ISC", "BIT", "ARR", "CLV", "PLP", "RTI"].contains (mnemonicOf i)

/-- 10 R26: the instructions that write D. -/
def writesD (i : Instr) : Bool := ["SED", "CLD", "PLP", "RTI"].contains (mnemonicOf i)

/-- 10 R26: the instructions that write I. -/
def writesI (i : Instr) : Bool := ["SEI", "CLI", "PLP", "RTI", "BRK"].contains (mnemonicOf i)

/-- 10 R26: the instructions that write C. -/
def writesC (i : Instr) : Bool :=
  ["ADC", "SBC", "CMP", "CPX", "CPY", "ASL", "LSR", "ROL", "ROR", "SLO", "RLA", "SRE", "RRA", "DCP", "ISC",
   "ANC", "ALR", "ARR", "SBX", "CLC", "SEC", "PLP", "RTI"].contains (mnemonicOf i)

/-- The instructions that store at their effective address: 40 R104 (memory forms), R105. -/
def storesAtAddr (i : Instr) : Bool :=
  !accForm i &&
  ["STA", "STX", "STY", "SAX", "SHA", "SHX", "SHY", "TAS", "ASL", "LSR", "ROL", "ROR", "INC", "DEC", "SLO",
   "RLA", "SRE", "RRA", "DCP", "ISC"].contains (mnemonicOf i)

/-- The instructions that push on the stack (10 R27; 44, 45). -/
def pushes (i : Instr) : Bool := ["PHA", "PHP", "JSR", "BRK"].contains (mnemonicOf i)

/-- The store-class and read-modify-write forms that store at their mode's effective address. -/
def storingForms (n : Byte) (w : Word) : List Form :=
  staForms n w ++ stxForms n w ++ styForms n w ++ saxForms n w ++ incForms n w ++ decForms n w ++
  aslForms n w ++ lsrForms n w ++ rolForms n w ++ rorForms n w ++ sloForms n w ++ rlaForms n w ++
  sreForms n w ++ rraForms n w ++ dcpForms n w ++ iscForms n w

/-- The operand form of an instruction with an effective address or an immediate, for the page-cross flag of its
mode; none where it has no operand byte or only a branch offset or a jump target. -/
def operandMode (i : Instr) : Option Mode :=
  match (opRow (opcodeOf i)).mode, encode i with
  | .imm, [_, n] => some (.imm n)
  | .zp, [_, n] => some (.zp n)
  | .zpx, [_, n] => some (.zpx n)
  | .zpy, [_, n] => some (.zpy n)
  | .izx, [_, n] => some (.izx n)
  | .izy, [_, n] => some (.izy n)
  | .abs, [_, ll, hh] => some (.abs (mkWord hh ll))
  | .abx, [_, ll, hh] => some (.abx (mkWord hh ll))
  | .aby, [_, ll, hh] => some (.aby (mkWord hh ll))
  | _, _ => none

/-- The `cost` of an instruction computed from its row of the opcode table (60 R254): base cycles, one more when
the class is `page_cross` and the mode's `cross` is true, and a branch's extra when the class is
`branch`, PC having moved (`took` tells whether the branch was taken, `target` where to). -/
def tableCost (i : Instr) (s : State) (took : Bool) (target : Word) : Nat :=
  (opRow (opcodeOf i)).base +
  match (opRow (opcodeOf i)).extra with
  | .none => 0
  | .pageCross =>
    match operandMode i with
    | some m => if pageCross m s then 1 else 0
    | none => 0
  | .branch => if took then 1 + (if hiByte (s.pc + 2) = hiByte target then 0 else 1) else 0

/-- Whether the branch `i` is taken in `s`: the condition of 44 R171-R178. -/
def branchTaken (i : Instr) (s : State) : Bool :=
  match mnemonicOf i with
  | "BPL" => !s.n
  | "BMI" => s.n
  | "BVC" => !s.v
  | "BVS" => s.v
  | "BCC" => !s.c
  | "BCS" => s.c
  | "BNE" => !s.z
  | "BEQ" => s.z
  | _ => false

/-- Apply `f` to the state an outcome leaves, if there is one: by `Next` or by `Lockup`. -/
def mapState (f : State → State) : Host.Outcome State Fault Refusal → Host.Outcome State Fault Refusal
  | .next s => .next (f s)
  | .fault (.lockup s) => .fault (.lockup (f s))
  | .fault e => .fault e
  | .refused e => .refused e

/-- The bytes stand in plain memory from `addr` on, addresses modulo `2^16`. -/
def StandsAt : List Byte → Word → State → Prop
  | [], _, _ => True
  | b :: rest, addr, s =>
    (∃ key, memKey s addr = some key ∧ s.mem.read key = b) ∧ StandsAt rest (addr + 1) s

/-- The exact sum of the adder: `A + m + C` (42 R130). -/
def exactSum (a m : Byte) (c : Bool) : Nat := a.toNat + m.toNat + c.toNat

/-- The exact two's-complement sum `A + m + C` (42 R130). -/
def exactSignedSum (a m : Byte) (c : Bool) : Int := a.toInt + m.toInt + c.toInt

/-- `Add(m)` as exact arithmetic (42 R130): the sum modulo 256, C the carry out, V when the
two's-complement sum lies outside -128..127, N and Z from the result. -/
def addExactly (m : Byte) (s : State) : State :=
  let r : Byte := BitVec.ofNat 8 (exactSum s.a m s.c)
  { s with
    a := r
    c := decide (256 ≤ exactSum s.a m s.c)
    v := decide (exactSignedSum s.a m s.c < -128) || decide (127 < exactSignedSum s.a m s.c)
    z := decide (r = 0)
    n := decide (128 ≤ r.toNat) }

/-- `A <- A - M - (1 - C) mod 2^8`, C when `A >= M + (1 - C)` unsigned, V when the signed difference lies
outside -128..127 (42 R132). -/
def subtractExactly (m : Byte) (s : State) : State :=
  let borrow : Nat := if s.c then 0 else 1
  let diff : Int := s.a.toInt - m.toInt - borrow
  let r : Byte := s.a - m - BitVec.ofNat 8 borrow
  { s with
    a := r
    c := decide (m.toNat + borrow ≤ s.a.toNat)
    v := decide (diff < -128) || decide (127 < diff)
    z := decide (r = 0)
    n := decide (128 ≤ r.toNat) }

/-- `Compare(reg, m)` (42 R137): C when `reg >= m` unsigned, Z when equal, N bit 7 of `reg - m`. -/
def compareExactly (reg m : Byte) (s : State) : State :=
  { s with
    c := decide (m.toNat ≤ reg.toNat)
    z := decide (reg = m)
    n := decide (128 ≤ (reg - m).toNat) }

/-- `SetNZ(v)` (00 R8): Z when `v` is 0, N bit 7 of `v`. -/
def setZeroNegative (v : Byte) (s : State) : State :=
  { s with z := decide (v = 0), n := decide (128 ≤ v.toNat) }

/-- `(v << 1) | C` modulo 256 and `(v >> 1) | (C << 7)`, as arithmetic (43 R162, R163). -/
def rotatedLeft (v : Byte) (c : Bool) : Byte := BitVec.ofNat 8 (2 * v.toNat + c.toNat)

/-- See `rotatedLeft`. -/
def rotatedRight (v : Byte) (c : Bool) : Byte := BitVec.ofNat 8 (v.toNat / 2 + 128 * c.toNat)

end Sys2Proof.Forms
end

