-- ==== Sys2Proof/Certificates/Slice0/Obligations.lean ====
section
/-! DEFINITION. The statements for the provers, in the order of the spec's files. `Forms` gives the forms of
each instruction and the shapes of rule. A statement about a free value (a device's answer, the constants
of ANE and LXA) holds whatever the value is. -/

open Sys2Proof Sys2Proof.Machine Sys2Proof.Forms

/-! ## State, flags, stack (spec 10) -/

/-- R24, R25: the packed status byte bit by bit; unpacking it restores every flag; bits 5 and 4 of an
unpacked byte are discarded. -/
def Obligations.PackAndUnpackStatus : Prop :=
  (∀ (s : State) (b : Bool) (k : Fin 8),
    (pack b s).getLsbD k = [s.c, s.z, s.i, s.d, b, true, s.v, s.n][k]) ∧
  (∀ (s : State) (b : Bool) (t : State),
    unpack (pack b s) t = { t with n := s.n, v := s.v, d := s.d, i := s.i, z := s.z, c := s.c }) ∧
  (∀ (p : Byte) (s : State), unpack p s =
    { s with n := p.getLsbD 7, v := p.getLsbD 6, d := p.getLsbD 3, i := p.getLsbD 2,
             z := p.getLsbD 1, c := p.getLsbD 0 }) ∧
  (∀ (p q : Byte) (s : State), p &&& 0xCF = q &&& 0xCF → unpack p s = unpack q s)

/-- R27, R42: a push writes at `{$01, S}` and then decrements S, a pull increments S and then reads, both
modulo 256 and as bus accesses; a 16-bit value lies low byte lower; pulls return what pushes
stored, wherever S stands. -/
def Obligations.StackPushesAndPulls : Prop :=
  ∀ (s : State) (b : Byte) (w : Word),
    (push b s).sp = s.sp - 1 ∧
    (push b s).mem = s.mem.write (0x100 + s.sp.toNat) b ∧
    (∀ tw, memWrite tw (mkWord 0x01 s.sp) b s = .next { push b s with sp := s.sp }) ∧
    memRead (mkWord 0x01 (s.sp + 1)) s = .next (pulled s, s) ∧
    afterPull s = { s with sp := s.sp + 1 } ∧
    (s.mem.wf = true →
      pulled (push b s) = b ∧ (afterPull (push b s)).sp = s.sp ∧
      pulled16 (push16 w s) = w ∧ (afterPull16 (push16 w s)).sp = s.sp ∧
      (push16 w s).mem.read (0x100 + (s.sp - 1).toNat) = loByte w ∧
      (push16 w s).mem.read (0x100 + s.sp.toNat) = hiByte w ∧
      (∀ key, key ≠ 0x100 + s.sp.toNat → (push b s).mem.read key = s.mem.read key))

/-- R21, R22, R26, R27: an instruction writes a register or a flag only if the spec's list of writers names
it; none that goes on sets `halted` (a JAM does not go on: `JamLocksUp`). -/
def Obligations.OnlyListedInstructionsWriteEachRegister : Prop :=
  ∀ (i : Instr) (s t : State), exec i s = .next t →
    (writesA i = false → t.a = s.a) ∧ (writesX i = false → t.x = s.x) ∧
    (writesY i = false → t.y = s.y) ∧ (writesS i = false → t.sp = s.sp) ∧
    (writesNZ i = false → t.n = s.n ∧ t.z = s.z) ∧ (writesV i = false → t.v = s.v) ∧
    (writesD i = false → t.d = s.d) ∧ (writesI i = false → t.i = s.i) ∧
    (writesC i = false → t.c = s.c) ∧
    t.halted = s.halted

/-- R29: D changes nothing but what is pushed: an instruction that neither pushes the status nor writes D
does the same with D set as with D clear. -/
def Obligations.DecimalFlagHasNoEffect : Prop :=
  ∀ (i : Instr) (s : State) (d : Bool),
    ["PHP", "BRK", "PLP", "RTI", "SED", "CLD"].contains (mnemonicOf i) = false →
    exec i { s with d := d } = mapState (fun t => { t with d := d }) (exec i s)

/-! ## Memory (spec 20) -/

/-- R46: an address $0000-$1FFF selects byte `addr & $07FF`: a byte written through one mirror is read
through every mirror, no read has an effect, and no other RAM byte changes. -/
def Obligations.RamMirrorsNameOneByte : Prop :=
  ∀ (tw : Nat) (s : State) (addr other : Word) (b : Byte), s.mem.wf = true →
    addr.toNat ≤ 0x1FFF → other.toNat ≤ 0x1FFF →
    ∃ t, memWrite tw addr b s = .next t ∧
      (addr &&& 0x07FF = other &&& 0x07FF → memRead other t = .next (b, t)) ∧
      (addr &&& 0x07FF ≠ other &&& 0x07FF →
        ∃ v, memRead other s = .next (v, s) ∧ memRead other t = .next (v, t)) ∧
      t = { s with mem := t.mem }

/-- R44, R46-R51 (`TEST_REGION_POLICY = fault`): what a bus read answers in each region of the address map.
Cartridge space answers as the NROM instance, or as `CartRead` of another mapper's state. The spec leaves a
device's answer an oracle's; that it is a free value drawn and counted, and that the read is recorded as
an event, is the model's choice (log entries 6 and 13). -/
def Obligations.BusReadByRegion : Prop :=
  ∀ (addr : Word) (s : State),
    memRead addr s =
      if addr.toNat ≤ 0x1FFF then .next (s.mem.read (addr.toNat % 0x800), s)
      else if addr.toNat ≤ 0x4017 then
        let reg : Word := if addr.toNat ≤ 0x3FFF then BitVec.ofNat 16 (0x2000 + addr.toNat % 8) else addr
        match devFault false reg s with
        | some e => .fault e
        | none => .next (Config.devRead s.draws reg,
            { s with devEvents := s.devEvents ++ [.read reg], draws := s.draws + 1 })
      else if addr.toNat ≤ 0x401F then .fault .unmappedAccess
      else match s.mapper with
        | .nrom =>
          if addr.toNat < 0x6000 then .fault .unmappedCartridge
          else if addr.toNat < 0x8000 then .next (s.mem.read addr.toNat, s)
          else .next (s.mem.read (0x8000 + (addr.toNat - 0x8000) % s.prgSize), s)
        | .other state =>
          match Config.cart.read state addr with
          | .ok b => .next (b, s)
          | .error kind => .fault (.deviceFault kind)

/-- R45-R50, R52 (`TEST_REGION_POLICY = fault`): what a bus write does in each region, $4014 apart
(`OamDmaCopiesPage`, `OamDmaFaultsWithItsFirstRead`). A device write is recorded once, in order. Under the
NROM instance a write to PRG ROM has no effect; under another mapper a write to cartridge space is a
`CartWrite`, which updates that mapper's state or faults. -/
def Obligations.BusWriteByRegion : Prop :=
  ∀ (tw : Nat) (addr : Word) (b : Byte) (s : State), addr ≠ 0x4014 →
    memWrite tw addr b s =
      if addr.toNat ≤ 0x1FFF then .next { s with mem := s.mem.write (addr.toNat % 0x800) b }
      else if addr.toNat ≤ 0x4017 then
        let reg : Word := if addr.toNat ≤ 0x3FFF then BitVec.ofNat 16 (0x2000 + addr.toNat % 8) else addr
        match devFault true reg s with
        | some e => .fault e
        | none => .next { s with devEvents := s.devEvents ++ [.write reg b] }
      else if addr.toNat ≤ 0x401F then .fault .unmappedAccess
      else match s.mapper with
        | .nrom =>
          if addr.toNat < 0x6000 then .fault .unmappedCartridge
          else if addr.toNat < 0x8000 then .next { s with mem := s.mem.write addr.toNat b }
          else .next s
        | .other state =>
          match Config.cart.write state addr b with
          | .ok state' => .next { s with mapper := .other state' }
          | .error kind => .fault (.deviceFault kind)

/-- R53, R262: a read or a write of PPUDATA, $2007 or a mirror, while the PPU renders on a visible or pre-render
line raises `PpuDataDuringRendering`, whatever the responders would answer; any other access to a device
register raises only the fault its responder answers with. -/
def Obligations.PpuDataDuringRenderingFaults : Prop :=
  ∀ (tw : Nat) (addr : Word) (b : Byte) (s : State),
    (0x2000 ≤ addr.toNat → addr.toNat ≤ 0x3FFF → addr.toNat % 8 = 7 → s.ppuRendering = true →
      memRead addr s = .fault .ppuDataDuringRendering ∧
      memWrite tw addr b s = .fault .ppuDataDuringRendering) ∧
    (∀ (write : Bool) (reg : Word), (reg ≠ 0x2007 ∨ s.ppuRendering = false) →
      (∀ f ∈ s.devFaults, f.reg = reg → f.onWrite ≠ write) → devFault write reg s = none) ∧
    (∀ f ∈ s.devFaults, (f.reg ≠ 0x2007 ∨ s.ppuRendering = false) →
      ∃ g ∈ s.devFaults, g.reg = f.reg ∧ g.onWrite = f.onWrite ∧
        devFault f.onWrite f.reg s = some (.deviceFault g.kind))

/-- R54, R55, R56: a write of `v` to $4014 is recorded, the 256 bytes of page `v` are read in increasing order
and handed to sprite memory, no memory and no register changes, and 513 stall cycles are queued, 514 when
the write cycle index is odd. A page of RAM or cartridge space is read without effect; a page $20-$3F is
256 reads of the PPU's registers, each recorded and drawn on its own before its byte is handed on. (The
record of reads and the draws: log entries 6, 12, 13. Page $40 always faults, at $4018.) -/
def Obligations.OamDmaCopiesPage : Prop :=
  ∀ (tw : Nat) (v : Byte) (s : State), devFault true 0x4014 s = none →
    ((v.toNat ≤ 0x1F ∨ (s.mapper = .nrom ∧ 0x60 ≤ v.toNat) ∨
        (0x41 ≤ v.toNat ∧ ∀ k, k < 256 → Readable (mkWord v (BitVec.ofNat 8 k)) s)) →
      memWrite tw 0x4014 v s = .next { s with
        devEvents := s.devEvents ++ .write 0x4014 v ::
          (List.range 256).map fun k => .oam (readByte (mkWord v (BitVec.ofNat 8 k)) s)
        stall := s.stall + if tw % 2 = 1 then 514 else 513 }) ∧
    (0x20 ≤ v.toNat → v.toNat ≤ 0x3F →
      (∀ k, k < 8 → devFault false (BitVec.ofNat 16 (0x2000 + k)) s = none) →
      memWrite tw 0x4014 v s = .next { s with
        devEvents := s.devEvents ++ .write 0x4014 v ::
          (List.range 256).flatMap fun k =>
            let reg : Word := BitVec.ofNat 16 (0x2000 + k % 8)
            [.read reg, .oam (Config.devRead (s.draws + k) reg)]
        draws := s.draws + 256
        stall := s.stall + if tw % 2 = 1 then 514 else 513 })

/-- R45, R54: a write to $4014 that the device itself answers with a fault ends the tick in that fault; one that
the device takes, of a page with an address that faults, ends it in the fault of the first such read. -/
def Obligations.OamDmaFaultsWithItsFirstRead : Prop :=
  ∀ (tw : Nat) (v : Byte) (s : State) (e : Fault),
    (devFault true 0x4014 s = some e → memWrite tw 0x4014 v s = .fault e) ∧
    (∀ k, k < 256 → devFault true 0x4014 s = none →
      readFault (mkWord v (BitVec.ofNat 8 k)) s = some e →
      (∀ j, j < k → readFault (mkWord v (BitVec.ofNat 8 j)) s = none) →
      memWrite tw 0x4014 v s = .fault e)

/-- R63, R65, R296 under the NROM instance: no tick changes a byte of PRG ROM, so code there cannot be
modified, and no tick exchanges the NROM instance for another mapper. -/
def Obligations.NoTickWritesRom : Prop :=
  ∀ (s t : State), TickLeaves s t →
    t.prgSize = s.prgSize ∧ (s.mapper = .nrom → t.mapper = .nrom) ∧
    ∀ key, 0x8000 ≤ key → t.mem.read key = s.mem.read key

/-- The stores' frame (R104, R105): a store-class or read-modify-write instruction changes no byte of plain
memory but the one its effective address selects; and an unstable store none but the one its
own address selects. -/
def Obligations.StoresChangeOneByte : Prop :=
  (∀ (s t : State) (n : Byte) (w : Word) (f : Form), f ∈ storingForms n w → exec f.instr s = .next t →
    ∀ key, memKey s (effAddr f.mode s) ≠ some key → t.mem.read key = s.mem.read key) ∧
  ShFrame shaForms (fun s => s.a &&& s.x) ∧ ShFrame shxForms (fun s => s.x) ∧
  ShFrame shyForms (fun s => s.y) ∧ ShFrame tasForms (fun s => s.a &&& s.x)

/-- The memory frame of every other instruction: one that neither stores at an effective address nor pushes
leaves memory as it was, and one that pushes changes no byte but the stack bytes it pushes: one for PHA and
PHP, two for JSR, three for BRK. -/
def Obligations.OtherInstructionsKeepMemory : Prop :=
  ∀ (i : Instr) (s t : State), exec i s = .next t → storesAtAddr i = false →
    (pushes i = false → t.mem = s.mem) ∧
    (∀ key, key ≠ 0x100 + s.sp.toNat →
      (mnemonicOf i = "JSR" ∨ mnemonicOf i = "BRK" → key ≠ 0x100 + (s.sp - 1).toNat) →
      (mnemonicOf i = "BRK" → key ≠ 0x100 + (s.sp - 2).toNat) →
      t.mem.read key = s.mem.read key)

/-! ## Encoding (spec 30) -/

/-- R70, R72, R74: words written out from the opcode map decode to the instructions they stand for; the operand
word is little-endian. The last clause, that an operand a table word gives no bits is zero, is the
model's choice (log entry 24). -/
def Obligations.WordsOfTheOpcodeMapDecode : Prop :=
  decode [0xA9, 0x7F] = .ok (.ldaImm 0x7F, []) ∧
  decode [0x8D, 0x00, 0x02, 0xEA] = .ok (.staAbs 0x0200, [0xEA]) ∧
  decode [0x6C, 0x20, 0x01] = .ok (.jmpInd 0x0120, []) ∧
  decode [0xD0, 0xFA] = .ok (.bne 0xFA, []) ∧
  decode [0x00, 0xEA] = .ok (.brk, [0xEA]) ∧
  decode [0x02] = .ok (.jam02, []) ∧
  decode [0xEB, 0x01] = .ok (.usbcImm 0x01, []) ∧
  decode [0x9E, 0xF0, 0x12] = .ok (.shxAby 0x12F0, []) ∧
  decode [0xAD, 0x00] = .error (.truncated 0xAD) ∧
  decodeTableWord 24 0x1234AD = some (.ldaAbs 0x1234) ∧
  decodeTableWord 8 0xAD = some (.ldaAbs 0x0000)

/-- Every instruction, with every operand, is the one its encoding decodes to, and decoding takes exactly its
bytes (R70, R72, R73). -/
def Obligations.DecodingAnEncodingGivesTheInstruction : Prop :=
  ∀ (i : Instr) (rest : List Byte), i.wellFormed = true → decode (encode i ++ rest) = .ok (i, rest)

/-- R73, R77: decoding is total and loses nothing: any three bytes decode, and the instruction's encoding is
the bytes that were taken, one, two or three by the opcode alone. -/
def Obligations.EveryOpcodeDecodesAndEncodesBack : Prop :=
  ∀ (op b1 b2 : Byte), ∃ i rest, decode [op, b1, b2] = .ok (i, rest) ∧
    encode i ++ rest = [op, b1, b2] ∧ (encode i).length = opLength op ∧ opcodeOf i = op

/-! ## Addressing modes (spec 40) -/

/-- R95, R96, R97, R98, R100, R101: the effective address of every mode. The zero-page sums and the pointers'
second bytes wrap in zero page, the absolute sums wrap modulo 2^16; the pointers are read over the
bus. The page-cross flag compares the high bytes before and after indexing. -/
def Obligations.EffectiveAddresses : Prop :=
  ∀ (s : State) (n p : Byte) (w : Word),
    (effAddr (.zp n) s).toNat = n.toNat ∧
    (effAddr (.zpx n) s).toNat = (n.toNat + s.x.toNat) % 256 ∧
    (effAddr (.zpy n) s).toNat = (n.toNat + s.y.toNat) % 256 ∧
    effAddr (.abs w) s = w ∧
    (effAddr (.abx w) s).toNat = (w.toNat + s.x.toNat) % 65536 ∧
    (effAddr (.aby w) s).toNat = (w.toNat + s.y.toNat) % 65536 ∧
    effAddr (.izx n) s = zpPointer (n + s.x) s ∧
    (effAddr (.izy n) s).toNat = ((zpPointer n s).toNat + s.y.toNat) % 65536 ∧
    (∃ lo hi, memRead (zext16 p) s = .next (lo, s) ∧ memRead (zext16 (p + 1)) s = .next (hi, s) ∧
      (zpPointer p s).toNat = hi.toNat * 256 + lo.toNat) ∧
    (pageCross (.abx w) s = true ↔ w.toNat / 256 ≠ (w.toNat + s.x.toNat) % 65536 / 256) ∧
    (pageCross (.aby w) s = true ↔ w.toNat / 256 ≠ (w.toNat + s.y.toNat) % 65536 / 256) ∧
    (pageCross (.izy n) s = true ↔
      (zpPointer n s).toNat / 256 ≠ ((zpPointer n s).toNat + s.y.toNat) % 65536 / 256)

/-! ## Loads, stores, transfers (spec 41) -/

/-- R110, R111, R112: `A <- M`, `X <- M`, `Y <- M`, with N and Z from the value, in every form. -/
def Obligations.LoadsWriteTheirRegister : Prop :=
  ReadRule ldaForms (fun m t => setZeroNegative m { t with a := m }) ∧
  ReadRule ldxForms (fun m t => setZeroNegative m { t with x := m }) ∧
  ReadRule ldyForms (fun m t => setZeroNegative m { t with y := m })

/-- R113, R114, R115: `MemWrite(EA, A)`, `MemWrite(EA, X)`, `MemWrite(EA, Y)`, no flag, in every form. -/
def Obligations.StoresWriteTheirRegister : Prop :=
  StoreRule staForms (fun t => t.a) ∧ StoreRule stxForms (fun t => t.x) ∧
  StoreRule styForms (fun t => t.y)

/-- R116-R121: the transfers; TXS alone sets no flag. -/
def Obligations.TransfersCopyRegisters : Prop :=
  OneByteRule 0xAA .tax 2 (fun t => setZeroNegative t.a { t with x := t.a }) ∧
  OneByteRule 0xA8 .tay 2 (fun t => setZeroNegative t.a { t with y := t.a }) ∧
  OneByteRule 0x8A .txa 2 (fun t => setZeroNegative t.x { t with a := t.x }) ∧
  OneByteRule 0x98 .tya 2 (fun t => setZeroNegative t.y { t with a := t.y }) ∧
  OneByteRule 0xBA .tsx 2 (fun t => setZeroNegative t.sp { t with x := t.sp }) ∧
  OneByteRule 0x9A .txs 2 (fun t => { t with sp := t.x })

/-! ## Arithmetic and logic (spec 42) -/

/-- R130, R131: ADC adds A, M and C exactly: result modulo 256, C the carry out, V when the two's-complement
sum lies outside -128..127, whatever D holds, in every form. -/
def Obligations.AdcAddsExactly : Prop := ReadRule adcForms addExactly

/-- R132, R230: SBC, and USBC its duplicate, subtract M and the borrow exactly: C when no borrow is needed, V
when the signed difference lies outside -128..127, in every form. -/
def Obligations.SbcSubtractsExactly : Prop :=
  ReadRule sbcForms subtractExactly ∧ ImmediateRule 0xEB .usbcImm subtractExactly

/-- R133, R134, R135: AND, ORA, EOR of A and M into A, N and Z from the result, in every form. -/
def Obligations.LogicIntoAccumulator : Prop :=
  ReadRule andForms (fun m t => setZeroNegative (t.a &&& m) { t with a := t.a &&& m }) ∧
  ReadRule oraForms (fun m t => setZeroNegative (t.a ||| m) { t with a := t.a ||| m }) ∧
  ReadRule eorForms (fun m t => setZeroNegative (t.a ^^^ m) { t with a := t.a ^^^ m })

/-- R136: BIT sets Z from A & M, N and V from bits 7 and 6 of M, and leaves A. -/
def Obligations.BitTestsMemory : Prop :=
  ReadRule bitForms (fun m t =>
    { t with z := decide (t.a &&& m = 0), n := m.getLsbD 7, v := m.getLsbD 6 })

/-- R137-R140: CMP, CPX, CPY set C when the register is not below M, Z when equal, N from the difference, and
write nothing else; the old C is not read. -/
def Obligations.ComparesSetCarryZeroNegative : Prop :=
  ReadRule cmpForms (fun m t => compareExactly t.a m t) ∧
  ReadRule cpxForms (fun m t => compareExactly t.x m t) ∧
  ReadRule cpyForms (fun m t => compareExactly t.y m t)

/-- R141, R142: INC and DEC read a byte, write it one up or down modulo 256, and set N and Z from it. -/
def Obligations.IncAndDecOfMemory : Prop :=
  RmwRule incForms (fun v _ => v + 1) (fun _ r t => setZeroNegative r t) ∧
  RmwRule decForms (fun v _ => v - 1) (fun _ r t => setZeroNegative r t)

/-- R143-R146: INX, INY, DEX, DEY. -/
def Obligations.IndexRegistersCount : Prop :=
  OneByteRule 0xE8 .inx 2 (fun t => setZeroNegative (t.x + 1) { t with x := t.x + 1 }) ∧
  OneByteRule 0xC8 .iny 2 (fun t => setZeroNegative (t.y + 1) { t with y := t.y + 1 }) ∧
  OneByteRule 0xCA .dex 2 (fun t => setZeroNegative (t.x - 1) { t with x := t.x - 1 }) ∧
  OneByteRule 0x88 .dey 2 (fun t => setZeroNegative (t.y - 1) { t with y := t.y - 1 })

/-! ## Shifts and rotates (spec 43) -/

/-- R160-R163: ASL, LSR, ROL, ROR. The memory forms read `v`, write `r` made from `v` and the old C, and set
C to the bit shifted out and N and Z from `r`; the accumulator forms do the same to A with no bus access. V
is untouched. -/
def Obligations.ShiftsAndRotates : Prop :=
  RmwRule aslForms (fun v _ => BitVec.ofNat 8 (2 * v.toNat))
    (fun v r t => setZeroNegative r { t with c := v.getLsbD 7 }) ∧
  RmwRule lsrForms (fun v _ => BitVec.ofNat 8 (v.toNat / 2))
    (fun v r t => setZeroNegative r { t with c := v.getLsbD 0 }) ∧
  RmwRule rolForms rotatedLeft (fun v r t => setZeroNegative r { t with c := v.getLsbD 7 }) ∧
  RmwRule rorForms rotatedRight (fun v r t => setZeroNegative r { t with c := v.getLsbD 0 }) ∧
  OneByteRule 0x0A .aslAcc 2 (fun t =>
    let r : Byte := BitVec.ofNat 8 (2 * t.a.toNat)
    setZeroNegative r { t with a := r, c := t.a.getLsbD 7 }) ∧
  OneByteRule 0x4A .lsrAcc 2 (fun t =>
    let r : Byte := BitVec.ofNat 8 (t.a.toNat / 2)
    setZeroNegative r { t with a := r, c := t.a.getLsbD 0 }) ∧
  OneByteRule 0x2A .rolAcc 2 (fun t =>
    setZeroNegative (rotatedLeft t.a t.c) { t with a := rotatedLeft t.a t.c, c := t.a.getLsbD 7 }) ∧
  OneByteRule 0x6A .rorAcc 2 (fun t =>
    setZeroNegative (rotatedRight t.a t.c) { t with a := rotatedRight t.a t.c, c := t.a.getLsbD 0 })

/-! ## Control flow (spec 44) -/

/-- R170-R178: each branch is taken exactly on its condition; taken, PC is the next instruction's address plus
the signed offset, at 3 cycles or 4 into another page; not taken, it costs 2. -/
def Obligations.BranchesFollowTheirFlag : Prop :=
  BranchRule 0x10 .bpl (fun s => !s.n) ∧ BranchRule 0x30 .bmi (fun s => s.n) ∧
  BranchRule 0x50 .bvc (fun s => !s.v) ∧ BranchRule 0x70 .bvs (fun s => s.v) ∧
  BranchRule 0x90 .bcc (fun s => !s.c) ∧ BranchRule 0xB0 .bcs (fun s => s.c) ∧
  BranchRule 0xD0 .bne (fun s => !s.z) ∧ BranchRule 0xF0 .beq (fun s => s.z)

/-- R179, R180, R99: JMP absolute goes to its operand; JMP indirect reads the target's low byte at the pointer
and its high byte at the pointer plus one within the pointer's page; in plain memory nothing else changes,
elsewhere the two reads have their effects; a faulting pointer read ends the tick. -/
def Obligations.JumpsGoToTheirTarget : Prop :=
  (∀ (s : State) (w : Word), exec (.jmpAbs w) s = .next { finish 3 3 s with pc := w }) ∧
  (∀ (s : State) (w w' : Word) (k k' : Nat), memKey s w = some k →
    w'.toNat = w.toNat / 256 * 256 + (w.toNat + 1) % 256 → memKey s w' = some k' →
    exec (.jmpInd w) s = .next { finish 3 5 s with pc := mkWord (s.mem.read k') (s.mem.read k) }) ∧
  (∀ (s : State) (w w' : Word), Readable w s → w' = mkWord (hiByte w) (loByte w + 1) → Readable w' s →
    exec (.jmpInd w) s = .next { finish 3 5 (afterRead w' (afterRead w s)) with
      pc := mkWord (readByte w' (afterRead w s)) (readByte w s) }) ∧
  (∀ (s : State) (w : Word) (e : Fault), readFault w s = some e → exec (.jmpInd w) s = .fault e) ∧
  (∀ (s : State) (w w' : Word) (e : Fault), Readable w s → w' = mkWord (hiByte w) (loByte w + 1) →
    readFault w' s = some e → exec (.jmpInd w) s = .fault e)

/-- R181, R182: JSR pushes the address of its last byte and jumps; RTS pulls an address and goes one past it;
so after a JSR to anywhere, RTS comes back behind the JSR with S as it was. -/
def Obligations.SubroutineCallAndReturn : Prop :=
  (∀ (s : State) (w : Word),
    exec (.jsrAbs w) s = .next { finish 3 6 (push16 (s.pc + 2) s) with pc := w }) ∧
  (∀ s : State, exec .rts s = .next { finish 1 6 (afterPull16 s) with pc := pulled16 s + 1 }) ∧
  (∀ (s t : State) (w : Word), s.mem.wf = true → exec (.jsrAbs w) s = .next t →
    ∃ u, exec .rts t = .next u ∧ u.pc = s.pc + 3 ∧ u.sp = s.sp)

/-- R183, R24: BRK pushes the address two past its opcode, high byte first, then the status with bits 5 and 4
set; I is set; PC is the 16-bit value at $FFFE. A fault of the vector's reads ends the tick; the NROM
instance answers them without fault. -/
def Obligations.BrkTakesItsException : Prop :=
  opcodeOf .brk = 0x00 ∧
  ∀ (s p : State), p = push (pack true s) (push (loByte (s.pc + 2)) (push (hiByte (s.pc + 2)) s)) →
    (vectorFault 0xFFFE p = none → exec .brk s = .next { finish 1 7 p with
      i := true
      pc := mkWord (readByte 0xFFFF p) (readByte 0xFFFE p) }) ∧
    (∀ e, vectorFault 0xFFFE p = some e → exec .brk s = .fault e) ∧
    (s.mapper = .nrom → vectorFault 0xFFFE p = none)

/-- R184, R25: RTI pulls the flags, then PC with no increment; bits 5 and 4 of the byte are discarded. -/
def Obligations.RtiRestoresFlagsAndPc : Prop :=
  ∀ (s : State) (p lo hi : Byte), p = s.mem.read (0x100 + (s.sp + 1).toNat) →
    lo = s.mem.read (0x100 + (s.sp + 2).toNat) → hi = s.mem.read (0x100 + (s.sp + 3).toNat) →
    exec .rti s = .next { s with
      n := p.getLsbD 7, v := p.getLsbD 6, d := p.getLsbD 3, i := p.getLsbD 2
      z := p.getLsbD 1, c := p.getLsbD 0
      sp := s.sp + 3, pc := mkWord hi lo, stall := s.stall + 5, cycles := s.cycles + 1 }

/-- R183, R184: an RTI right after a BRK resumes two past the BRK's opcode with every flag and S as before the
BRK, in every state whose memory is canonical. -/
def Obligations.RtiUndoesBrk : Prop :=
  ∀ s t : State, s.mem.wf = true → exec .brk s = .next t →
    ∃ u, exec .rti t = .next u ∧ u.pc = s.pc + 2 ∧ u.sp = s.sp ∧
      u.n = s.n ∧ u.v = s.v ∧ u.d = s.d ∧ u.i = s.i ∧ u.z = s.z ∧ u.c = s.c

/-! ## Stack, flags, NOP (spec 45) -/

/-- R190-R193: PHA and PHP push A and `Pack(1)`; PLA and PLP pull A, with N and Z, and the six flags. -/
def Obligations.StackInstructions : Prop :=
  OneByteRule 0x48 .pha 3 (fun t => { t with
    mem := t.mem.write (0x100 + t.sp.toNat) t.a, sp := t.sp - 1 }) ∧
  OneByteRule 0x08 .php 3 (fun t => { t with
    mem := t.mem.write (0x100 + t.sp.toNat) (pack true t), sp := t.sp - 1 }) ∧
  OneByteRule 0x68 .pla 4 (fun t =>
    let b := t.mem.read (0x100 + (t.sp + 1).toNat)
    setZeroNegative b { t with a := b, sp := t.sp + 1 }) ∧
  OneByteRule 0x28 .plp 4 (fun t =>
    let b := t.mem.read (0x100 + (t.sp + 1).toNat)
    { t with n := b.getLsbD 7, v := b.getLsbD 6, d := b.getLsbD 3, i := b.getLsbD 2,
             z := b.getLsbD 1, c := b.getLsbD 0, sp := t.sp + 1 })

/-- R194-R200: each flag instruction writes its one flag. -/
def Obligations.FlagInstructions : Prop :=
  OneByteRule 0x18 .clc 2 (fun t => { t with c := false }) ∧
  OneByteRule 0x38 .sec 2 (fun t => { t with c := true }) ∧
  OneByteRule 0x58 .cli 2 (fun t => { t with i := false }) ∧
  OneByteRule 0x78 .sei 2 (fun t => { t with i := true }) ∧
  OneByteRule 0xD8 .cld 2 (fun t => { t with d := false }) ∧
  OneByteRule 0xF8 .sed 2 (fun t => { t with d := true }) ∧
  OneByteRule 0xB8 .clv 2 (fun t => { t with v := false })

/-- R201, R231, R232, R233: the official NOP and the 27 unofficial ones only advance PC and count cycles; those
with a memory operand read it, with the read's side effects, and discard it. -/
def Obligations.NopsOnlyAdvance : Prop :=
  OneByteRule 0xEA .nop 2 id ∧ OneByteRule 0x1A .nopImp1A 2 id ∧ OneByteRule 0x3A .nopImp3A 2 id ∧
  OneByteRule 0x5A .nopImp5A 2 id ∧ OneByteRule 0x7A .nopImp7A 2 id ∧ OneByteRule 0xDA .nopImpDA 2 id ∧
  OneByteRule 0xFA .nopImpFA 2 id ∧ ReadRule nopForms (fun _ t => t)

/-! ## Unofficial opcodes (spec 46) -/

/-- R211, R212, R213: SLO, RLA and SRE shift a byte of memory, then OR, AND or EOR it into A; C is the bit
shifted out, N and Z come from the new A. -/
def Obligations.ShiftThenLogic : Prop :=
  RmwRule sloForms (fun v _ => BitVec.ofNat 8 (2 * v.toNat)) (fun v r t =>
    setZeroNegative (t.a ||| r) { t with a := t.a ||| r, c := v.getLsbD 7 }) ∧
  RmwRule rlaForms rotatedLeft (fun v r t =>
    setZeroNegative (t.a &&& r) { t with a := t.a &&& r, c := v.getLsbD 7 }) ∧
  RmwRule sreForms (fun v _ => BitVec.ofNat 8 (v.toNat / 2)) (fun v r t =>
    setZeroNegative (t.a ^^^ r) { t with a := t.a ^^^ r, c := v.getLsbD 0 })

/-- R214, R217, R218: RRA rotates a byte and adds it with the carry the rotate produced; DCP decrements it and
compares A with it; ISC increments it and subtracts it with borrow. -/
def Obligations.CountOrRotateThenArithmetic : Prop :=
  RmwRule rraForms rotatedRight (fun v r t => addExactly r { t with c := v.getLsbD 0 }) ∧
  RmwRule dcpForms (fun v _ => v - 1) (fun _ r t => compareExactly t.a r t) ∧
  RmwRule iscForms (fun v _ => v + 1) (fun _ r t => subtractExactly r t)

/-- R215, R216, R229: SAX stores A & X; LAX loads A and X; LAS loads A, X and S with M & S. -/
def Obligations.SaxLaxLas : Prop :=
  StoreRule saxForms (fun t => t.a &&& t.x) ∧
  ReadRule laxForms (fun m t => setZeroNegative m { t with a := m, x := m }) ∧
  ReadRule lasForms (fun m t =>
    setZeroNegative (m &&& t.sp) { t with a := m &&& t.sp, x := m &&& t.sp, sp := m &&& t.sp })

/-- R219, R220, R221, R224: ANC (both opcodes), ALR, ARR and SBX, with their special flags. -/
def Obligations.ImmediateCombinations : Prop :=
  ImmediateRule 0x0B .anc0B (fun m t =>
    setZeroNegative (t.a &&& m) { t with a := t.a &&& m, c := (t.a &&& m).getLsbD 7 }) ∧
  ImmediateRule 0x2B .anc2B (fun m t =>
    setZeroNegative (t.a &&& m) { t with a := t.a &&& m, c := (t.a &&& m).getLsbD 7 }) ∧
  ImmediateRule 0x4B .alrImm (fun m t =>
    let r : Byte := BitVec.ofNat 8 ((t.a &&& m).toNat / 2)
    setZeroNegative r { t with a := r, c := (t.a &&& m).getLsbD 0 }) ∧
  ImmediateRule 0x6B .arrImm (fun m t =>
    let r := rotatedRight (t.a &&& m) t.c
    setZeroNegative r { t with a := r, c := r.getLsbD 6, v := r.getLsbD 6 ^^ r.getLsbD 5 }) ∧
  ImmediateRule 0xCB .sbxImm (fun m t =>
    let u := t.a &&& t.x
    setZeroNegative (u - m) { t with x := u - m, c := decide (m.toNat ≤ u.toNat) })

/-- R222, R223 with the constants bound (log entries 9 and 10, the model's choice: the spec leaves them OPEN and
refuses the opcodes). Each constant is a free value, one byte of the machine, and no tick draws it; everything
else is as the spec's formula says. -/
def Obligations.AneAndLxaRunOnAFreeConstant : Prop :=
  ImmediateRule 0x8B .aneImm (fun m t =>
    let r := (t.a ||| Config.aneByte) &&& t.x &&& m
    setZeroNegative r { t with a := r }) ∧
  ImmediateRule 0xAB .lxaImm (fun m t =>
    let r := (t.a ||| Config.lxaByte) &&& m
    setZeroNegative r { t with a := r, x := r })

/-- R225-R228 under `SH_POLICY = standard`: SHA, SHX, SHY and TAS. -/
def Obligations.UnstableStores : Prop :=
  ShRule shaForms (fun s => s) (fun s => s.a &&& s.x) ∧
  ShRule shxForms (fun s => s) (fun s => s.x) ∧
  ShRule shyForms (fun s => s) (fun s => s.y) ∧
  ShRule tasForms (fun s => { s with sp := s.a &&& s.x }) (fun s => s.sp)

/-- R234, R261: each of the twelve JAMs ends its tick with `Lockup`, leaving `halted` set and no stall queued; PC
stays at the opcode and nothing else changes, `cycles` included; and every later tick answers `Lockup` and
changes nothing. (`Lockup` is carried by the host's `fault`, with the state it leaves: log entry 1.) -/
def Obligations.JamLocksUp : Prop :=
  ∀ s : State, ∀ i ∈ [Instr.jam02, .jam12, .jam22, .jam32, .jam42, .jam52, .jam62, .jam72, .jam92, .jamB2,
      .jamD2, .jamF2],
    ∃ t, t = { s with halted := true, stall := 0 } ∧ exec i s = .fault (.lockup t) ∧
      step t = .fault (.lockup t)

/-- R77: no opcode traps or is refused. Under the parameters this spec decides, no instruction and no tick is
refused (the constants of ANE and LXA being bound: log entries 9 and 10). -/
def Obligations.NothingIsRefused : Prop :=
  (∀ (i : Instr) (s : State) (r : Refusal), exec i s ≠ .refused r) ∧
  (∀ (s : State) (r : Refusal), step s ≠ .refused r)

/-! ## The tick (spec 60) -/

/-- R251, R255, R265: with stall left, a tick that is not halted only moves `stall` and `cycles`, whatever
interrupt is pending; so `stall` such ticks later the next boundary tick is due, nothing else changed. -/
def Obligations.StallTicksOnlyCount : Prop :=
  (∀ s : State, s.halted = false → 0 < s.stall →
    step s = .next { s with stall := s.stall - 1, cycles := s.cycles + 1 }) ∧
  (∀ s : State, s.halted = false →
    ticks s.stall s = .next { s with stall := 0, cycles := s.cycles + s.stall })

/-- R250, R261: a tick answers `Lockup` exactly in two cases. A halted machine: nothing changes, whatever stall or
interrupt is pending. A boundary tick whose opcode, fetched after the poll, is in `JAM_SET`: `halted` is set,
no stall is queued, and an entry the poll made keeps its effects, PC being the JAM's address. -/
def Obligations.LockupExactlyOnJamOrHalted : Prop :=
  ∀ s t : State, step s = .fault (.lockup t) ↔
    (s.halted = true ∧ t = s) ∨
    (s.halted = false ∧ s.stall = 0 ∧ ∃ u v op, poll s = .next u ∧ memRead u.pc u = .next (op, v) ∧
      op ∈ [(0x02 : Byte), 0x12, 0x22, 0x32, 0x42, 0x52, 0x62, 0x72, 0x92, 0xB2, 0xD2, 0xF2] ∧
      t = { v with halted := true, stall := 0 })

/-- R250, R252, R90: at a quiet boundary, when bytes that stand in plain memory at PC decode to an instruction,
all of them and no more, the tick is the execution of that instruction at that state. -/
def Obligations.TickRunsTheDecodedInstruction : Prop :=
  ∀ (s : State) (bytes : List Byte) (i : Instr), QuietBoundary s → StandsAt bytes s.pc s →
    decode bytes = .ok (i, []) → i.wellFormed = true → step s = exec i s

/-- R253, R258, R90, R262: a masked or absent IRQ is not taken: the tick fetches and executes at PC. Each byte
the instruction has is one bus read, in order, whose effects the execution sees, wherever the code stands,
device registers included; and the first of those reads that faults ends the tick in its fault. -/
def Obligations.QuietBoundaryFetchesAtPc : Prop :=
  ∀ s : State, QuietBoundary s →
    step s = fetchExec s ∧
    (∀ e, memRead s.pc s = .fault e → step s = .fault e) ∧
    (∀ b0 s1, memRead s.pc s = .next (b0, s1) →
      (∀ i, decode [b0] = .ok (i, []) → step s = exec i s1) ∧
      (∀ e, 2 ≤ opLength b0 → memRead (s.pc + 1) s1 = .fault e → step s = .fault e) ∧
      (∀ b1 s2, memRead (s.pc + 1) s1 = .next (b1, s2) →
        (∀ i, decode [b0, b1] = .ok (i, []) → step s = exec i s2) ∧
        (∀ e, opLength b0 = 3 → memRead (s.pc + 2) s2 = .fault e → step s = .fault e) ∧
        (∀ b2 s3 i, memRead (s.pc + 2) s2 = .next (b2, s3) →
          decode [b0, b1, b2] = .ok (i, []) → step s = exec i s3)))

/-- R253, R256, R257, R259, R260: at a boundary with the NMI latch set, the latch is cleared, PC and `Pack(0)`
are pushed, I is set, PC is the value at $FFFA, and the handler's first instruction is fetched and executed
in the same tick, 7 entry cycles being charged; I does not mask it. A fault of the vector's reads ends the
tick; the NROM instance answers them without fault. -/
def Obligations.NmiIsTakenAtTheBoundary : Prop :=
  ∀ s p : State, s.halted = false → s.stall = 0 → s.nmiPending = true →
    p = push (pack false s) (push (loByte s.pc) (push (hiByte s.pc) s)) →
    (vectorFault 0xFFFA p = none → step s = fetchExec { p with
      nmiPending := false, i := true, stall := 7
      pc := mkWord (readByte 0xFFFB p) (readByte 0xFFFA p) }) ∧
    (∀ e, vectorFault 0xFFFA p = some e → step s = .fault e) ∧
    (s.mapper = .nrom → vectorFault 0xFFFA p = none)

/-- R253, R258, R259, R260: at a boundary with no NMI, the IRQ level high and I clear, the IRQ is taken through
$FFFE in the same way; the level is not acknowledged. -/
def Obligations.IrqIsTakenAtTheBoundary : Prop :=
  ∀ s p : State, s.halted = false → s.stall = 0 → s.nmiPending = false → s.irqLevel = true →
    s.i = false → p = push (pack false s) (push (loByte s.pc) (push (hiByte s.pc) s)) →
    (vectorFault 0xFFFE p = none → step s = fetchExec { p with
      i := true, stall := 7, pc := mkWord (readByte 0xFFFF p) (readByte 0xFFFE p) }) ∧
    (∀ e, vectorFault 0xFFFE p = some e → step s = .fault e) ∧
    (s.mapper = .nrom → vectorFault 0xFFFE p = none)

/-- R257, R265: a stall tick and a tick of a halted machine leave the NMI latch as it is; any other tick that
leaves a state, a lock-up included, leaves it clear. No tick sets it. -/
def Obligations.NmiLatchClearedOnlyWhenTaken : Prop :=
  ∀ s t : State, TickLeaves s t →
    (s.halted = true ∨ 0 < s.stall → t.nmiPending = s.nmiPending) ∧
    (s.halted = false → s.stall = 0 → t.nmiPending = false)

/-- R254, R255: the stall an instruction queues is its cost by its row of the opcode table, minus one, on top of
the entry cycles already charged and of any OAM DMA it starts (513 or 514 cycles); it counts one tick. -/
def Obligations.StallQueuedIsTheTablesCost : Prop :=
  ∀ (i : Instr) (s t : State), exec i s = .next t →
    t.cycles = s.cycles + 1 ∧
    ∃ dma, t.stall = s.stall + (tableCost i s (branchTaken i s) t.pc - 1) + dma ∧
      (dma = 0 ∨ (storesAtAddr i = true ∧ (dma = 513 ∨ dma = 514)))

/-- R276, R32: every tick that answers a next state counts exactly one cycle, so `n` ticks advance `cycles` by
exactly `n`; and a tick that locks up counts none. -/
def Obligations.TicksCountCycles : Prop :=
  (∀ (n : Nat) (s t : State), ticks n s = .next t → t.cycles = s.cycles + n) ∧
  (∀ s t : State, step s = .fault (.lockup t) → t.cycles = s.cycles)

/-- R34, R47, R53: no tick writes what is outside the CPU: the IRQ level, the PPU's condition, the cartridge's
size. The rest is the model's choice: no tick writes the responders' faults (log entry 7), and the record of
device events (log entry 13) and the count of draws (log entry 6) only grow; the size as a field of State
is log entry 4's. -/
def Obligations.NoTickWritesAnInput : Prop :=
  ∀ s t : State, TickLeaves s t →
    t.irqLevel = s.irqLevel ∧ t.ppuRendering = s.ppuRendering ∧ t.devFaults = s.devFaults ∧
    t.prgSize = s.prgSize ∧ s.draws ≤ t.draws ∧ ∃ events, t.devEvents = s.devEvents ++ events

/-! ## Reset and the whole machine (spec 70) -/

/-- R290, R291, R292, R38: a power cycle from any state, with any draws: A, X, Y and RAM are the draws, S is $FD,
the flags are those of $24, no stall, not halted, latch clear, 7 cycles, PC the reset vector of the
cartridge, whose image it keeps; the fault of a vector read is its own, and the NROM instance raises none.
PRG RAM is kept or blank as the mapper block chooses (log entry 18), another mapper comes up in the state
the argument gives (log entry 18), the record of device events is emptied (log entry 13), and the inputs,
the image's size and the count of draws stay (log entry 19): those four are the model's choice. -/
def Obligations.ResetSequence : Prop :=
  ∀ (p : PowerOn) (s : State), ∃ t : State,
    (vectorFault 0xFFFC t = none →
      powerOn p s = .next { t with pc := mkWord (readByte 0xFFFD t) (readByte 0xFFFC t) }) ∧
    (∀ e, vectorFault 0xFFFC t = some e → powerOn p s = .fault e) ∧
    (s.mapper = .nrom → vectorFault 0xFFFC t = none) ∧
    t.a = p.a ∧ t.x = p.x ∧ t.y = p.y ∧ t.sp = 0xFD ∧ pack false t = 0x24 ∧
    t.n = false ∧ t.v = false ∧ t.d = false ∧ t.i = true ∧ t.z = false ∧ t.c = false ∧
    t.stall = 0 ∧ t.halted = false ∧ t.nmiPending = false ∧ t.cycles = 7 ∧
    (s.mem.wf = true → ∀ k, k < 0x800 → t.mem.read k = p.ram.getD k 0) ∧
    (∀ key, 0x6000 ≤ key → key < 0x8000 → t.mem.read key = if p.keepPrgRam then s.mem.read key else 0) ∧
    (∀ key, 0x8000 ≤ key → t.mem.read key = s.mem.read key) ∧
    (s.mapper = .nrom → t.mapper = .nrom) ∧ (s.mapper ≠ .nrom → t.mapper = .other p.mapperState) ∧
    t.devEvents = [] ∧ t.prgSize = s.prgSize ∧ t.draws = s.draws ∧ t.irqLevel = s.irqLevel ∧
    t.ppuRendering = s.ppuRendering ∧ t.devFaults = s.devFaults

/-- R38, R293: the state after reset: the values the spec gives, and on a blank cartridge exactly what a power
cycle leaves; a test launch from it is at $C000 with A, X, Y zero, S $FD, P $24, cycle 7. A, X, Y, RAM
and PC of the state after reset are the model's choice (log entries 2, 3, 5). -/
def Obligations.StateAfterReset : Prop :=
  powerOn { a := 0, x := 0, y := 0, ram := [], keepPrgRam := false, mapperState := 0 } State.reset =
    .next State.reset ∧
  traceOf (testLaunch State.reset) =
    { pc := 0xC000, a := 0, x := 0, y := 0, p := 0x24, sp := 0xFD, cycles := 7 }

/-- The state after reset is well-formed: the invariant's start. -/
def Obligations.ResetIsWellFormed : Prop := State.reset.wf = true

/-- The state a tick leaves, a lock-up's included, is well-formed if the state it began in is: memory stays
canonical and lists only bytes that exist, the image stays within cartridge space, a locked-up machine
queues no stall. -/
def Obligations.TickKeepsWellFormed : Prop :=
  ∀ s t : State, s.wf = true → TickLeaves s t → t.wf = true

/-- Every state the machine and its environment can reach is well-formed: by ticks, inputs, images and power
cycles in any order (R277). -/
def Obligations.ReachableStatesAreWellFormed : Prop := ∀ s : State, Reachable s → s.wf = true
end

