-- ==== Sys2Proof/Laws/Bits.lean ====
section
/-! SUPPORT. Splitting and joining words, as arithmetic on their values. -/

namespace Sys2Proof.Machine

theorem mkWord_toNat (hi lo : Byte) : (mkWord hi lo).toNat = hi.toNat * 256 + lo.toNat := by
  have h : (mkWord hi lo).toNat = hi.toNat <<< 8 ||| lo.toNat := BitVec.toNat_append hi lo
  rw [h, ← Nat.shiftLeft_add_eq_or_of_lt lo.isLt, Nat.shiftLeft_eq]

theorem hiByte_toNat (w : Word) : (hiByte w).toNat = w.toNat / 256 := by
  have := w.isLt
  simp only [hiByte, BitVec.extractLsb'_toNat, Nat.shiftRight_eq_div_pow]
  omega

theorem loByte_toNat (w : Word) : (loByte w).toNat = w.toNat % 256 := by
  simp [loByte, BitVec.extractLsb'_toNat]

@[simp] theorem hiByte_mkWord (hi lo : Byte) : hiByte (mkWord hi lo) = hi := by
  apply BitVec.eq_of_toNat_eq
  rw [hiByte_toNat, mkWord_toNat]
  omega

@[simp] theorem loByte_mkWord (hi lo : Byte) : loByte (mkWord hi lo) = lo := by
  apply BitVec.eq_of_toNat_eq
  rw [loByte_toNat, mkWord_toNat]
  omega

@[simp] theorem mkWord_hi_lo (w : Word) : mkWord (hiByte w) (loByte w) = w := by
  apply BitVec.eq_of_toNat_eq
  rw [mkWord_toNat, hiByte_toNat, loByte_toNat]
  omega

theorem zext16_toNat (b : Byte) : (zext16 b).toNat = b.toNat := by
  simp only [zext16, BitVec.toNat_setWidth]
  omega

end Sys2Proof.Machine
end

