-- ==== Sys2Proof/Laws/Memory.lean ====
section
/-! SUPPORT. Plain memory: a read after a write, and the canonical form that every write keeps. -/

namespace Sys2Proof.Machine.Memory

/-! ## Reading after writing -/

theorem wfAbove_mono {lo hi : Nat} (h : lo ≤ hi) :
    ∀ {m : Memory}, wfAbove hi m = true → wfAbove lo m = true
  | [], _ => rfl
  | (k, b) :: rest, w => by
    simp only [wfAbove, Bool.and_eq_true, decide_eq_true_eq] at w ⊢
    exact ⟨⟨h.trans w.1.1, w.1.2⟩, w.2⟩

/-- A key below every listed key reads as blank. -/
theorem read_below {m : Memory} : ∀ {lo key : Nat}, wfAbove lo m = true → key < lo →
    read m key = blankByte := by
  induction m with
  | nil => intros; rfl
  | cons cell rest ih =>
    intro lo key w h
    obtain ⟨k, b⟩ := cell
    simp only [wfAbove, Bool.and_eq_true, decide_eq_true_eq] at w
    have hk : key ≠ k := by omega
    simp only [read, if_neg hk]
    exact ih w.2 (by omega)

@[simp] theorem read_insert_same (m : Memory) (key : Nat) (b : Byte) :
    read (insert m key b) key = b := by
  induction m with
  | nil => simp [insert, read]
  | cons cell rest ih =>
    obtain ⟨k, old⟩ := cell
    simp only [insert]
    split
    · simp [read]
    · split
      · simp [read]
      · rename_i h; simp [read, h, ih]

theorem read_insert_other (m : Memory) {key other : Nat} (b : Byte) (h : other ≠ key) :
    read (insert m key b) other = read m other := by
  induction m with
  | nil => simp [insert, read, h]
  | cons cell rest ih =>
    obtain ⟨k, old⟩ := cell
    simp only [insert]
    split
    · simp [read, h]
    · split
      · rename_i hk; subst hk; simp [read, h]
      · simp only [read, ih]

theorem read_remove_same {m : Memory} : ∀ {lo : Nat} (key : Nat), wfAbove lo m = true →
    read (remove m key) key = blankByte := by
  induction m with
  | nil => intros; rfl
  | cons cell rest ih =>
    intro lo key w
    obtain ⟨k, old⟩ := cell
    simp only [wfAbove, Bool.and_eq_true, decide_eq_true_eq] at w
    simp only [remove]
    split
    · rename_i h; subst h; exact read_below w.2 (by omega)
    · rename_i h; simp only [read, if_neg h]; exact ih key w.2

theorem read_remove_other (m : Memory) {key other : Nat} (h : other ≠ key) :
    read (remove m key) other = read m other := by
  induction m with
  | nil => rfl
  | cons cell rest ih =>
    obtain ⟨k, old⟩ := cell
    simp only [remove]
    split
    · rename_i hk; subst hk; simp [read, h]
    · simp only [read, ih]

/-- What was written is read, in canonical memory. -/
theorem read_write_same {m : Memory} (w : m.wf = true) (key : Nat) (b : Byte) :
    read (write m key b) key = b := by
  unfold write
  split
  · rename_i h; rw [read_remove_same key w, h]
  · exact read_insert_same m key b

/-- A write leaves every other key alone. -/
theorem read_write_other (m : Memory) {key other : Nat} (b : Byte) (h : other ≠ key) :
    read (write m key b) other = read m other := by
  unfold write
  split
  · exact read_remove_other m h
  · exact read_insert_other m b h

/-! ## The canonical form -/

theorem insert_wfAbove {b : Byte} (hb : b ≠ blankByte) {m : Memory} : ∀ {lo key : Nat},
    wfAbove lo m = true → lo ≤ key → wfAbove lo (insert m key b) = true := by
  induction m with
  | nil => intro lo key _ h; simp [insert, wfAbove, h, hb]
  | cons cell rest ih =>
    intro lo key w h
    obtain ⟨k, old⟩ := cell
    simp only [wfAbove, Bool.and_eq_true, decide_eq_true_eq] at w
    simp only [insert]
    split
    · simp only [wfAbove, Bool.and_eq_true, decide_eq_true_eq]
      exact ⟨⟨h, hb⟩, ⟨by omega, w.1.2⟩, w.2⟩
    · split
      · rename_i h1 h2; subst h2
        simp only [wfAbove, Bool.and_eq_true, decide_eq_true_eq]
        exact ⟨⟨h, hb⟩, w.2⟩
      · simp only [wfAbove, Bool.and_eq_true, decide_eq_true_eq]
        exact ⟨w.1, ih w.2 (by omega)⟩

theorem remove_wfAbove {m : Memory} : ∀ {lo : Nat} (key : Nat),
    wfAbove lo m = true → wfAbove lo (remove m key) = true := by
  induction m with
  | nil => intros; rfl
  | cons cell rest ih =>
    intro lo key w
    obtain ⟨k, old⟩ := cell
    simp only [wfAbove, Bool.and_eq_true, decide_eq_true_eq] at w
    simp only [remove]
    split
    · exact wfAbove_mono (by omega) w.2
    · simp only [wfAbove, Bool.and_eq_true, decide_eq_true_eq]
      exact ⟨w.1, ih key w.2⟩

/-- Every write keeps the canonical form. -/
theorem write_wf {m : Memory} (w : m.wf = true) (key : Nat) (b : Byte) :
    (write m key b).wf = true := by
  unfold write
  split
  · exact remove_wfAbove key w
  · rename_i h; exact insert_wfAbove h w (Nat.zero_le key)

/-- Dropping entries keeps the canonical form. -/
theorem filter_wfAbove (p : Host.Cell → Bool) {m : Memory} : ∀ {lo : Nat},
    wfAbove lo m = true → wfAbove lo (m.filter p) = true := by
  induction m with
  | nil => intros; rfl
  | cons cell rest ih =>
    intro lo w
    obtain ⟨k, b⟩ := cell
    simp only [wfAbove, Bool.and_eq_true, decide_eq_true_eq] at w
    simp only [List.filter_cons]
    split
    · simp only [wfAbove, Bool.and_eq_true, decide_eq_true_eq]
      exact ⟨w.1, ih w.2⟩
    · exact wfAbove_mono (by omega) (ih w.2)

theorem filter_wf (p : Host.Cell → Bool) {m : Memory} (w : m.wf = true) :
    wf (m.filter p) = true := filter_wfAbove p w

/-! ## Which keys are listed -/

theorem insert_all {p : Host.Cell → Bool} {key : Nat} {b : Byte} (hp : p (key, b) = true)
    {m : Memory} (h : m.all p = true) : (insert m key b).all p = true := by
  induction m with
  | nil => simp [insert, hp]
  | cons cell rest ih =>
    obtain ⟨k, old⟩ := cell
    simp only [List.all_cons, Bool.and_eq_true] at h
    simp only [insert]
    split
    · simp [hp, h]
    · split
      · simp [hp, h]
      · simp [h.1, ih h.2]

theorem remove_all {p : Host.Cell → Bool} (key : Nat) {m : Memory} (h : m.all p = true) :
    (remove m key).all p = true := by
  induction m with
  | nil => rfl
  | cons cell rest ih =>
    obtain ⟨k, old⟩ := cell
    simp only [List.all_cons, Bool.and_eq_true] at h
    simp only [remove]
    split
    · exact h.2
    · simp [h.1, ih h.2]

/-- A write lists no key but its own. -/
theorem write_all {p : Host.Cell → Bool} {key : Nat} {b : Byte} (hp : p (key, b) = true)
    {m : Memory} (h : m.all p = true) : (write m key b).all p = true := by
  unfold write
  split
  · exact remove_all key h
  · exact insert_all hp h

end Sys2Proof.Machine.Memory
end

