-- ==== Sys2Proof/Laws/State.lean ====
section
/-! SUPPORT. What each update of the state does to each field: one lemma per field per update, so that no
later proof unfolds a record update. -/

namespace Sys2Proof.Machine

variable (s : State)

@[simp] theorem advance_a (len : Word) : (advance len s).a = s.a := rfl
@[simp] theorem advance_x (len : Word) : (advance len s).x = s.x := rfl
@[simp] theorem advance_y (len : Word) : (advance len s).y = s.y := rfl
@[simp] theorem advance_sp (len : Word) : (advance len s).sp = s.sp := rfl
@[simp] theorem advance_pc (len : Word) : (advance len s).pc = s.pc + len := rfl
@[simp] theorem advance_n (len : Word) : (advance len s).n = s.n := rfl
@[simp] theorem advance_v (len : Word) : (advance len s).v = s.v := rfl
@[simp] theorem advance_d (len : Word) : (advance len s).d = s.d := rfl
@[simp] theorem advance_i (len : Word) : (advance len s).i = s.i := rfl
@[simp] theorem advance_z (len : Word) : (advance len s).z = s.z := rfl
@[simp] theorem advance_c (len : Word) : (advance len s).c = s.c := rfl
@[simp] theorem advance_stall (len : Word) : (advance len s).stall = s.stall := rfl
@[simp] theorem advance_halted (len : Word) : (advance len s).halted = s.halted := rfl
@[simp] theorem advance_cycles (len : Word) : (advance len s).cycles = s.cycles := rfl
@[simp] theorem advance_nmiPending (len : Word) : (advance len s).nmiPending = s.nmiPending := rfl
@[simp] theorem advance_irqLevel (len : Word) : (advance len s).irqLevel = s.irqLevel := rfl
@[simp] theorem advance_mem (len : Word) : (advance len s).mem = s.mem := rfl
@[simp] theorem advance_prgSize (len : Word) : (advance len s).prgSize = s.prgSize := rfl
@[simp] theorem advance_mapper (len : Word) : (advance len s).mapper = s.mapper := rfl
@[simp] theorem advance_ppuRendering (len : Word) : (advance len s).ppuRendering = s.ppuRendering := rfl
@[simp] theorem advance_devFaults (len : Word) : (advance len s).devFaults = s.devFaults := rfl
@[simp] theorem advance_devEvents (len : Word) : (advance len s).devEvents = s.devEvents := rfl
@[simp] theorem advance_draws (len : Word) : (advance len s).draws = s.draws := rfl

@[simp] theorem charge_a (cost : Nat) : (charge cost s).a = s.a := rfl
@[simp] theorem charge_x (cost : Nat) : (charge cost s).x = s.x := rfl
@[simp] theorem charge_y (cost : Nat) : (charge cost s).y = s.y := rfl
@[simp] theorem charge_sp (cost : Nat) : (charge cost s).sp = s.sp := rfl
@[simp] theorem charge_pc (cost : Nat) : (charge cost s).pc = s.pc := rfl
@[simp] theorem charge_n (cost : Nat) : (charge cost s).n = s.n := rfl
@[simp] theorem charge_v (cost : Nat) : (charge cost s).v = s.v := rfl
@[simp] theorem charge_d (cost : Nat) : (charge cost s).d = s.d := rfl
@[simp] theorem charge_i (cost : Nat) : (charge cost s).i = s.i := rfl
@[simp] theorem charge_z (cost : Nat) : (charge cost s).z = s.z := rfl
@[simp] theorem charge_c (cost : Nat) : (charge cost s).c = s.c := rfl
@[simp] theorem charge_stall (cost : Nat) : (charge cost s).stall = s.stall + (cost - 1) := rfl
@[simp] theorem charge_halted (cost : Nat) : (charge cost s).halted = s.halted := rfl
@[simp] theorem charge_cycles (cost : Nat) : (charge cost s).cycles = s.cycles + 1 := rfl
@[simp] theorem charge_nmiPending (cost : Nat) : (charge cost s).nmiPending = s.nmiPending := rfl
@[simp] theorem charge_irqLevel (cost : Nat) : (charge cost s).irqLevel = s.irqLevel := rfl
@[simp] theorem charge_mem (cost : Nat) : (charge cost s).mem = s.mem := rfl
@[simp] theorem charge_prgSize (cost : Nat) : (charge cost s).prgSize = s.prgSize := rfl
@[simp] theorem charge_mapper (cost : Nat) : (charge cost s).mapper = s.mapper := rfl
@[simp] theorem charge_ppuRendering (cost : Nat) : (charge cost s).ppuRendering = s.ppuRendering := rfl
@[simp] theorem charge_devFaults (cost : Nat) : (charge cost s).devFaults = s.devFaults := rfl
@[simp] theorem charge_devEvents (cost : Nat) : (charge cost s).devEvents = s.devEvents := rfl
@[simp] theorem charge_draws (cost : Nat) : (charge cost s).draws = s.draws := rfl

@[simp] theorem setNZ_a (b : Byte) : (setNZ b s).a = s.a := rfl
@[simp] theorem setNZ_x (b : Byte) : (setNZ b s).x = s.x := rfl
@[simp] theorem setNZ_y (b : Byte) : (setNZ b s).y = s.y := rfl
@[simp] theorem setNZ_sp (b : Byte) : (setNZ b s).sp = s.sp := rfl
@[simp] theorem setNZ_pc (b : Byte) : (setNZ b s).pc = s.pc := rfl
@[simp] theorem setNZ_n (b : Byte) : (setNZ b s).n = bit 7 b := rfl
@[simp] theorem setNZ_v (b : Byte) : (setNZ b s).v = s.v := rfl
@[simp] theorem setNZ_d (b : Byte) : (setNZ b s).d = s.d := rfl
@[simp] theorem setNZ_i (b : Byte) : (setNZ b s).i = s.i := rfl
@[simp] theorem setNZ_z (b : Byte) : (setNZ b s).z = (b == 0) := rfl
@[simp] theorem setNZ_c (b : Byte) : (setNZ b s).c = s.c := rfl
@[simp] theorem setNZ_stall (b : Byte) : (setNZ b s).stall = s.stall := rfl
@[simp] theorem setNZ_halted (b : Byte) : (setNZ b s).halted = s.halted := rfl
@[simp] theorem setNZ_cycles (b : Byte) : (setNZ b s).cycles = s.cycles := rfl
@[simp] theorem setNZ_nmiPending (b : Byte) : (setNZ b s).nmiPending = s.nmiPending := rfl
@[simp] theorem setNZ_irqLevel (b : Byte) : (setNZ b s).irqLevel = s.irqLevel := rfl
@[simp] theorem setNZ_mem (b : Byte) : (setNZ b s).mem = s.mem := rfl
@[simp] theorem setNZ_prgSize (b : Byte) : (setNZ b s).prgSize = s.prgSize := rfl
@[simp] theorem setNZ_mapper (b : Byte) : (setNZ b s).mapper = s.mapper := rfl
@[simp] theorem setNZ_ppuRendering (b : Byte) : (setNZ b s).ppuRendering = s.ppuRendering := rfl
@[simp] theorem setNZ_devFaults (b : Byte) : (setNZ b s).devFaults = s.devFaults := rfl
@[simp] theorem setNZ_devEvents (b : Byte) : (setNZ b s).devEvents = s.devEvents := rfl
@[simp] theorem setNZ_draws (b : Byte) : (setNZ b s).draws = s.draws := rfl

@[simp] theorem unpack_a (p : Byte) : (unpack p s).a = s.a := rfl
@[simp] theorem unpack_x (p : Byte) : (unpack p s).x = s.x := rfl
@[simp] theorem unpack_y (p : Byte) : (unpack p s).y = s.y := rfl
@[simp] theorem unpack_sp (p : Byte) : (unpack p s).sp = s.sp := rfl
@[simp] theorem unpack_pc (p : Byte) : (unpack p s).pc = s.pc := rfl
@[simp] theorem unpack_n (p : Byte) : (unpack p s).n = bit 7 p := rfl
@[simp] theorem unpack_v (p : Byte) : (unpack p s).v = bit 6 p := rfl
@[simp] theorem unpack_d (p : Byte) : (unpack p s).d = bit 3 p := rfl
@[simp] theorem unpack_i (p : Byte) : (unpack p s).i = bit 2 p := rfl
@[simp] theorem unpack_z (p : Byte) : (unpack p s).z = bit 1 p := rfl
@[simp] theorem unpack_c (p : Byte) : (unpack p s).c = bit 0 p := rfl
@[simp] theorem unpack_stall (p : Byte) : (unpack p s).stall = s.stall := rfl
@[simp] theorem unpack_halted (p : Byte) : (unpack p s).halted = s.halted := rfl
@[simp] theorem unpack_cycles (p : Byte) : (unpack p s).cycles = s.cycles := rfl
@[simp] theorem unpack_nmiPending (p : Byte) : (unpack p s).nmiPending = s.nmiPending := rfl
@[simp] theorem unpack_irqLevel (p : Byte) : (unpack p s).irqLevel = s.irqLevel := rfl
@[simp] theorem unpack_mem (p : Byte) : (unpack p s).mem = s.mem := rfl
@[simp] theorem unpack_prgSize (p : Byte) : (unpack p s).prgSize = s.prgSize := rfl
@[simp] theorem unpack_mapper (p : Byte) : (unpack p s).mapper = s.mapper := rfl
@[simp] theorem unpack_ppuRendering (p : Byte) : (unpack p s).ppuRendering = s.ppuRendering := rfl
@[simp] theorem unpack_devFaults (p : Byte) : (unpack p s).devFaults = s.devFaults := rfl
@[simp] theorem unpack_devEvents (p : Byte) : (unpack p s).devEvents = s.devEvents := rfl
@[simp] theorem unpack_draws (p : Byte) : (unpack p s).draws = s.draws := rfl

@[simp] theorem push_a (b : Byte) : (push b s).a = s.a := rfl
@[simp] theorem push_x (b : Byte) : (push b s).x = s.x := rfl
@[simp] theorem push_y (b : Byte) : (push b s).y = s.y := rfl
@[simp] theorem push_sp (b : Byte) : (push b s).sp = s.sp - 1 := rfl
@[simp] theorem push_pc (b : Byte) : (push b s).pc = s.pc := rfl
@[simp] theorem push_n (b : Byte) : (push b s).n = s.n := rfl
@[simp] theorem push_v (b : Byte) : (push b s).v = s.v := rfl
@[simp] theorem push_d (b : Byte) : (push b s).d = s.d := rfl
@[simp] theorem push_i (b : Byte) : (push b s).i = s.i := rfl
@[simp] theorem push_z (b : Byte) : (push b s).z = s.z := rfl
@[simp] theorem push_c (b : Byte) : (push b s).c = s.c := rfl
@[simp] theorem push_stall (b : Byte) : (push b s).stall = s.stall := rfl
@[simp] theorem push_halted (b : Byte) : (push b s).halted = s.halted := rfl
@[simp] theorem push_cycles (b : Byte) : (push b s).cycles = s.cycles := rfl
@[simp] theorem push_nmiPending (b : Byte) : (push b s).nmiPending = s.nmiPending := rfl
@[simp] theorem push_irqLevel (b : Byte) : (push b s).irqLevel = s.irqLevel := rfl
@[simp] theorem push_mem (b : Byte) : (push b s).mem = s.mem.write (ramKey (stackAddr s.sp)) b := rfl
@[simp] theorem push_prgSize (b : Byte) : (push b s).prgSize = s.prgSize := rfl
@[simp] theorem push_mapper (b : Byte) : (push b s).mapper = s.mapper := rfl
@[simp] theorem push_ppuRendering (b : Byte) : (push b s).ppuRendering = s.ppuRendering := rfl
@[simp] theorem push_devFaults (b : Byte) : (push b s).devFaults = s.devFaults := rfl
@[simp] theorem push_devEvents (b : Byte) : (push b s).devEvents = s.devEvents := rfl
@[simp] theorem push_draws (b : Byte) : (push b s).draws = s.draws := rfl

@[simp] theorem afterPull_a : (afterPull s).a = s.a := rfl
@[simp] theorem afterPull_x : (afterPull s).x = s.x := rfl
@[simp] theorem afterPull_y : (afterPull s).y = s.y := rfl
@[simp] theorem afterPull_sp : (afterPull s).sp = s.sp + 1 := rfl
@[simp] theorem afterPull_pc : (afterPull s).pc = s.pc := rfl
@[simp] theorem afterPull_n : (afterPull s).n = s.n := rfl
@[simp] theorem afterPull_v : (afterPull s).v = s.v := rfl
@[simp] theorem afterPull_d : (afterPull s).d = s.d := rfl
@[simp] theorem afterPull_i : (afterPull s).i = s.i := rfl
@[simp] theorem afterPull_z : (afterPull s).z = s.z := rfl
@[simp] theorem afterPull_c : (afterPull s).c = s.c := rfl
@[simp] theorem afterPull_stall : (afterPull s).stall = s.stall := rfl
@[simp] theorem afterPull_halted : (afterPull s).halted = s.halted := rfl
@[simp] theorem afterPull_cycles : (afterPull s).cycles = s.cycles := rfl
@[simp] theorem afterPull_nmiPending : (afterPull s).nmiPending = s.nmiPending := rfl
@[simp] theorem afterPull_irqLevel : (afterPull s).irqLevel = s.irqLevel := rfl
@[simp] theorem afterPull_mem : (afterPull s).mem = s.mem := rfl
@[simp] theorem afterPull_prgSize : (afterPull s).prgSize = s.prgSize := rfl
@[simp] theorem afterPull_mapper : (afterPull s).mapper = s.mapper := rfl
@[simp] theorem afterPull_ppuRendering : (afterPull s).ppuRendering = s.ppuRendering := rfl
@[simp] theorem afterPull_devFaults : (afterPull s).devFaults = s.devFaults := rfl
@[simp] theorem afterPull_devEvents : (afterPull s).devEvents = s.devEvents := rfl
@[simp] theorem afterPull_draws : (afterPull s).draws = s.draws := rfl

@[simp] theorem lockUp_a : (lockUp s).a = s.a := rfl
@[simp] theorem lockUp_x : (lockUp s).x = s.x := rfl
@[simp] theorem lockUp_y : (lockUp s).y = s.y := rfl
@[simp] theorem lockUp_sp : (lockUp s).sp = s.sp := rfl
@[simp] theorem lockUp_pc : (lockUp s).pc = s.pc := rfl
@[simp] theorem lockUp_n : (lockUp s).n = s.n := rfl
@[simp] theorem lockUp_v : (lockUp s).v = s.v := rfl
@[simp] theorem lockUp_d : (lockUp s).d = s.d := rfl
@[simp] theorem lockUp_i : (lockUp s).i = s.i := rfl
@[simp] theorem lockUp_z : (lockUp s).z = s.z := rfl
@[simp] theorem lockUp_c : (lockUp s).c = s.c := rfl
@[simp] theorem lockUp_stall : (lockUp s).stall = 0 := rfl
@[simp] theorem lockUp_halted : (lockUp s).halted = true := rfl
@[simp] theorem lockUp_cycles : (lockUp s).cycles = s.cycles := rfl
@[simp] theorem lockUp_nmiPending : (lockUp s).nmiPending = s.nmiPending := rfl
@[simp] theorem lockUp_irqLevel : (lockUp s).irqLevel = s.irqLevel := rfl
@[simp] theorem lockUp_mem : (lockUp s).mem = s.mem := rfl
@[simp] theorem lockUp_prgSize : (lockUp s).prgSize = s.prgSize := rfl
@[simp] theorem lockUp_mapper : (lockUp s).mapper = s.mapper := rfl
@[simp] theorem lockUp_ppuRendering : (lockUp s).ppuRendering = s.ppuRendering := rfl
@[simp] theorem lockUp_devFaults : (lockUp s).devFaults = s.devFaults := rfl
@[simp] theorem lockUp_devEvents : (lockUp s).devEvents = s.devEvents := rfl
@[simp] theorem lockUp_draws : (lockUp s).draws = s.draws := rfl

@[simp] theorem stallTick_a : (stallTick s).a = s.a := rfl
@[simp] theorem stallTick_x : (stallTick s).x = s.x := rfl
@[simp] theorem stallTick_y : (stallTick s).y = s.y := rfl
@[simp] theorem stallTick_sp : (stallTick s).sp = s.sp := rfl
@[simp] theorem stallTick_pc : (stallTick s).pc = s.pc := rfl
@[simp] theorem stallTick_n : (stallTick s).n = s.n := rfl
@[simp] theorem stallTick_v : (stallTick s).v = s.v := rfl
@[simp] theorem stallTick_d : (stallTick s).d = s.d := rfl
@[simp] theorem stallTick_i : (stallTick s).i = s.i := rfl
@[simp] theorem stallTick_z : (stallTick s).z = s.z := rfl
@[simp] theorem stallTick_c : (stallTick s).c = s.c := rfl
@[simp] theorem stallTick_stall : (stallTick s).stall = s.stall - 1 := rfl
@[simp] theorem stallTick_halted : (stallTick s).halted = s.halted := rfl
@[simp] theorem stallTick_cycles : (stallTick s).cycles = s.cycles + 1 := rfl
@[simp] theorem stallTick_nmiPending : (stallTick s).nmiPending = s.nmiPending := rfl
@[simp] theorem stallTick_irqLevel : (stallTick s).irqLevel = s.irqLevel := rfl
@[simp] theorem stallTick_mem : (stallTick s).mem = s.mem := rfl
@[simp] theorem stallTick_prgSize : (stallTick s).prgSize = s.prgSize := rfl
@[simp] theorem stallTick_mapper : (stallTick s).mapper = s.mapper := rfl
@[simp] theorem stallTick_ppuRendering : (stallTick s).ppuRendering = s.ppuRendering := rfl
@[simp] theorem stallTick_devFaults : (stallTick s).devFaults = s.devFaults := rfl
@[simp] theorem stallTick_devEvents : (stallTick s).devEvents = s.devEvents := rfl
@[simp] theorem stallTick_draws : (stallTick s).draws = s.draws := rfl

@[simp] theorem devWrite_a (reg : Word) (b : Byte) : (devWrite reg b s).a = s.a := rfl
@[simp] theorem devWrite_x (reg : Word) (b : Byte) : (devWrite reg b s).x = s.x := rfl
@[simp] theorem devWrite_y (reg : Word) (b : Byte) : (devWrite reg b s).y = s.y := rfl
@[simp] theorem devWrite_sp (reg : Word) (b : Byte) : (devWrite reg b s).sp = s.sp := rfl
@[simp] theorem devWrite_pc (reg : Word) (b : Byte) : (devWrite reg b s).pc = s.pc := rfl
@[simp] theorem devWrite_n (reg : Word) (b : Byte) : (devWrite reg b s).n = s.n := rfl
@[simp] theorem devWrite_v (reg : Word) (b : Byte) : (devWrite reg b s).v = s.v := rfl
@[simp] theorem devWrite_d (reg : Word) (b : Byte) : (devWrite reg b s).d = s.d := rfl
@[simp] theorem devWrite_i (reg : Word) (b : Byte) : (devWrite reg b s).i = s.i := rfl
@[simp] theorem devWrite_z (reg : Word) (b : Byte) : (devWrite reg b s).z = s.z := rfl
@[simp] theorem devWrite_c (reg : Word) (b : Byte) : (devWrite reg b s).c = s.c := rfl
@[simp] theorem devWrite_stall (reg : Word) (b : Byte) : (devWrite reg b s).stall = s.stall := rfl
@[simp] theorem devWrite_halted (reg : Word) (b : Byte) : (devWrite reg b s).halted = s.halted := rfl
@[simp] theorem devWrite_cycles (reg : Word) (b : Byte) : (devWrite reg b s).cycles = s.cycles := rfl
@[simp] theorem devWrite_nmiPending (reg : Word) (b : Byte) : (devWrite reg b s).nmiPending = s.nmiPending := rfl
@[simp] theorem devWrite_irqLevel (reg : Word) (b : Byte) : (devWrite reg b s).irqLevel = s.irqLevel := rfl
@[simp] theorem devWrite_mem (reg : Word) (b : Byte) : (devWrite reg b s).mem = s.mem := rfl
@[simp] theorem devWrite_prgSize (reg : Word) (b : Byte) : (devWrite reg b s).prgSize = s.prgSize := rfl
@[simp] theorem devWrite_mapper (reg : Word) (b : Byte) : (devWrite reg b s).mapper = s.mapper := rfl
@[simp] theorem devWrite_ppuRendering (reg : Word) (b : Byte) : (devWrite reg b s).ppuRendering = s.ppuRendering := rfl
@[simp] theorem devWrite_devFaults (reg : Word) (b : Byte) : (devWrite reg b s).devFaults = s.devFaults := rfl
@[simp] theorem devWrite_devEvents (reg : Word) (b : Byte) : (devWrite reg b s).devEvents = s.devEvents ++ [.write reg b] := rfl
@[simp] theorem devWrite_draws (reg : Word) (b : Byte) : (devWrite reg b s).draws = s.draws := rfl

@[simp] theorem addWithCarry_a (m : Byte) : (addWithCarry m s).a = sumByte s.a m s.c := rfl
@[simp] theorem addWithCarry_x (m : Byte) : (addWithCarry m s).x = s.x := rfl
@[simp] theorem addWithCarry_y (m : Byte) : (addWithCarry m s).y = s.y := rfl
@[simp] theorem addWithCarry_sp (m : Byte) : (addWithCarry m s).sp = s.sp := rfl
@[simp] theorem addWithCarry_pc (m : Byte) : (addWithCarry m s).pc = s.pc := rfl
@[simp] theorem addWithCarry_n (m : Byte) : (addWithCarry m s).n = bit 7 (sumByte s.a m s.c) := rfl
@[simp] theorem addWithCarry_v (m : Byte) : (addWithCarry m s).v = sumOverflow s.a m s.c := rfl
@[simp] theorem addWithCarry_d (m : Byte) : (addWithCarry m s).d = s.d := rfl
@[simp] theorem addWithCarry_i (m : Byte) : (addWithCarry m s).i = s.i := rfl
@[simp] theorem addWithCarry_z (m : Byte) : (addWithCarry m s).z = (sumByte s.a m s.c == 0) := rfl
@[simp] theorem addWithCarry_c (m : Byte) : (addWithCarry m s).c = sumCarry s.a m s.c := rfl
@[simp] theorem addWithCarry_stall (m : Byte) : (addWithCarry m s).stall = s.stall := rfl
@[simp] theorem addWithCarry_halted (m : Byte) : (addWithCarry m s).halted = s.halted := rfl
@[simp] theorem addWithCarry_cycles (m : Byte) : (addWithCarry m s).cycles = s.cycles := rfl
@[simp] theorem addWithCarry_nmiPending (m : Byte) : (addWithCarry m s).nmiPending = s.nmiPending := rfl
@[simp] theorem addWithCarry_irqLevel (m : Byte) : (addWithCarry m s).irqLevel = s.irqLevel := rfl
@[simp] theorem addWithCarry_mem (m : Byte) : (addWithCarry m s).mem = s.mem := rfl
@[simp] theorem addWithCarry_prgSize (m : Byte) : (addWithCarry m s).prgSize = s.prgSize := rfl
@[simp] theorem addWithCarry_mapper (m : Byte) : (addWithCarry m s).mapper = s.mapper := rfl
@[simp] theorem addWithCarry_ppuRendering (m : Byte) : (addWithCarry m s).ppuRendering = s.ppuRendering := rfl
@[simp] theorem addWithCarry_devFaults (m : Byte) : (addWithCarry m s).devFaults = s.devFaults := rfl
@[simp] theorem addWithCarry_devEvents (m : Byte) : (addWithCarry m s).devEvents = s.devEvents := rfl
@[simp] theorem addWithCarry_draws (m : Byte) : (addWithCarry m s).draws = s.draws := rfl

@[simp] theorem compareWith_a (r m : Byte) : (compareWith r m s).a = s.a := rfl
@[simp] theorem compareWith_x (r m : Byte) : (compareWith r m s).x = s.x := rfl
@[simp] theorem compareWith_y (r m : Byte) : (compareWith r m s).y = s.y := rfl
@[simp] theorem compareWith_sp (r m : Byte) : (compareWith r m s).sp = s.sp := rfl
@[simp] theorem compareWith_pc (r m : Byte) : (compareWith r m s).pc = s.pc := rfl
@[simp] theorem compareWith_n (r m : Byte) : (compareWith r m s).n = bit 7 (r - m) := rfl
@[simp] theorem compareWith_v (r m : Byte) : (compareWith r m s).v = s.v := rfl
@[simp] theorem compareWith_d (r m : Byte) : (compareWith r m s).d = s.d := rfl
@[simp] theorem compareWith_i (r m : Byte) : (compareWith r m s).i = s.i := rfl
@[simp] theorem compareWith_z (r m : Byte) : (compareWith r m s).z = (r - m == 0) := rfl
@[simp] theorem compareWith_c (r m : Byte) : (compareWith r m s).c = decide (m ≤ r) := rfl
@[simp] theorem compareWith_stall (r m : Byte) : (compareWith r m s).stall = s.stall := rfl
@[simp] theorem compareWith_halted (r m : Byte) : (compareWith r m s).halted = s.halted := rfl
@[simp] theorem compareWith_cycles (r m : Byte) : (compareWith r m s).cycles = s.cycles := rfl
@[simp] theorem compareWith_nmiPending (r m : Byte) : (compareWith r m s).nmiPending = s.nmiPending := rfl
@[simp] theorem compareWith_irqLevel (r m : Byte) : (compareWith r m s).irqLevel = s.irqLevel := rfl
@[simp] theorem compareWith_mem (r m : Byte) : (compareWith r m s).mem = s.mem := rfl
@[simp] theorem compareWith_prgSize (r m : Byte) : (compareWith r m s).prgSize = s.prgSize := rfl
@[simp] theorem compareWith_mapper (r m : Byte) : (compareWith r m s).mapper = s.mapper := rfl
@[simp] theorem compareWith_ppuRendering (r m : Byte) : (compareWith r m s).ppuRendering = s.ppuRendering := rfl
@[simp] theorem compareWith_devFaults (r m : Byte) : (compareWith r m s).devFaults = s.devFaults := rfl
@[simp] theorem compareWith_devEvents (r m : Byte) : (compareWith r m s).devEvents = s.devEvents := rfl
@[simp] theorem compareWith_draws (r m : Byte) : (compareWith r m s).draws = s.draws := rfl

@[simp] theorem afterRead_a (addr : Word) : (afterRead addr s).a = s.a := by
  unfold afterRead; cases region addr <;> rfl
@[simp] theorem afterRead_x (addr : Word) : (afterRead addr s).x = s.x := by
  unfold afterRead; cases region addr <;> rfl
@[simp] theorem afterRead_y (addr : Word) : (afterRead addr s).y = s.y := by
  unfold afterRead; cases region addr <;> rfl
@[simp] theorem afterRead_sp (addr : Word) : (afterRead addr s).sp = s.sp := by
  unfold afterRead; cases region addr <;> rfl
@[simp] theorem afterRead_pc (addr : Word) : (afterRead addr s).pc = s.pc := by
  unfold afterRead; cases region addr <;> rfl
@[simp] theorem afterRead_n (addr : Word) : (afterRead addr s).n = s.n := by
  unfold afterRead; cases region addr <;> rfl
@[simp] theorem afterRead_v (addr : Word) : (afterRead addr s).v = s.v := by
  unfold afterRead; cases region addr <;> rfl
@[simp] theorem afterRead_d (addr : Word) : (afterRead addr s).d = s.d := by
  unfold afterRead; cases region addr <;> rfl
@[simp] theorem afterRead_i (addr : Word) : (afterRead addr s).i = s.i := by
  unfold afterRead; cases region addr <;> rfl
@[simp] theorem afterRead_z (addr : Word) : (afterRead addr s).z = s.z := by
  unfold afterRead; cases region addr <;> rfl
@[simp] theorem afterRead_c (addr : Word) : (afterRead addr s).c = s.c := by
  unfold afterRead; cases region addr <;> rfl
@[simp] theorem afterRead_stall (addr : Word) : (afterRead addr s).stall = s.stall := by
  unfold afterRead; cases region addr <;> rfl
@[simp] theorem afterRead_halted (addr : Word) : (afterRead addr s).halted = s.halted := by
  unfold afterRead; cases region addr <;> rfl
@[simp] theorem afterRead_cycles (addr : Word) : (afterRead addr s).cycles = s.cycles := by
  unfold afterRead; cases region addr <;> rfl
@[simp] theorem afterRead_nmiPending (addr : Word) : (afterRead addr s).nmiPending = s.nmiPending := by
  unfold afterRead; cases region addr <;> rfl
@[simp] theorem afterRead_irqLevel (addr : Word) : (afterRead addr s).irqLevel = s.irqLevel := by
  unfold afterRead; cases region addr <;> rfl
@[simp] theorem afterRead_mem (addr : Word) : (afterRead addr s).mem = s.mem := by
  unfold afterRead; cases region addr <;> rfl
@[simp] theorem afterRead_prgSize (addr : Word) : (afterRead addr s).prgSize = s.prgSize := by
  unfold afterRead; cases region addr <;> rfl
@[simp] theorem afterRead_mapper (addr : Word) : (afterRead addr s).mapper = s.mapper := by
  unfold afterRead; cases region addr <;> rfl
@[simp] theorem afterRead_ppuRendering (addr : Word) : (afterRead addr s).ppuRendering = s.ppuRendering := by
  unfold afterRead; cases region addr <;> rfl
@[simp] theorem afterRead_devFaults (addr : Word) : (afterRead addr s).devFaults = s.devFaults := by
  unfold afterRead; cases region addr <;> rfl

@[simp] theorem dmaByte_a (page : Byte) (k : Nat) : (dmaByte page s k).a = s.a := by
  simp [dmaByte]
@[simp] theorem dmaByte_x (page : Byte) (k : Nat) : (dmaByte page s k).x = s.x := by
  simp [dmaByte]
@[simp] theorem dmaByte_y (page : Byte) (k : Nat) : (dmaByte page s k).y = s.y := by
  simp [dmaByte]
@[simp] theorem dmaByte_sp (page : Byte) (k : Nat) : (dmaByte page s k).sp = s.sp := by
  simp [dmaByte]
@[simp] theorem dmaByte_pc (page : Byte) (k : Nat) : (dmaByte page s k).pc = s.pc := by
  simp [dmaByte]
@[simp] theorem dmaByte_n (page : Byte) (k : Nat) : (dmaByte page s k).n = s.n := by
  simp [dmaByte]
@[simp] theorem dmaByte_v (page : Byte) (k : Nat) : (dmaByte page s k).v = s.v := by
  simp [dmaByte]
@[simp] theorem dmaByte_d (page : Byte) (k : Nat) : (dmaByte page s k).d = s.d := by
  simp [dmaByte]
@[simp] theorem dmaByte_i (page : Byte) (k : Nat) : (dmaByte page s k).i = s.i := by
  simp [dmaByte]
@[simp] theorem dmaByte_z (page : Byte) (k : Nat) : (dmaByte page s k).z = s.z := by
  simp [dmaByte]
@[simp] theorem dmaByte_c (page : Byte) (k : Nat) : (dmaByte page s k).c = s.c := by
  simp [dmaByte]
@[simp] theorem dmaByte_stall (page : Byte) (k : Nat) : (dmaByte page s k).stall = s.stall := by
  simp [dmaByte]
@[simp] theorem dmaByte_halted (page : Byte) (k : Nat) : (dmaByte page s k).halted = s.halted := by
  simp [dmaByte]
@[simp] theorem dmaByte_cycles (page : Byte) (k : Nat) : (dmaByte page s k).cycles = s.cycles := by
  simp [dmaByte]
@[simp] theorem dmaByte_nmiPending (page : Byte) (k : Nat) : (dmaByte page s k).nmiPending = s.nmiPending := by
  simp [dmaByte]
@[simp] theorem dmaByte_irqLevel (page : Byte) (k : Nat) : (dmaByte page s k).irqLevel = s.irqLevel := by
  simp [dmaByte]
@[simp] theorem dmaByte_mem (page : Byte) (k : Nat) : (dmaByte page s k).mem = s.mem := by
  simp [dmaByte]
@[simp] theorem dmaByte_prgSize (page : Byte) (k : Nat) : (dmaByte page s k).prgSize = s.prgSize := by
  simp [dmaByte]
@[simp] theorem dmaByte_mapper (page : Byte) (k : Nat) : (dmaByte page s k).mapper = s.mapper := by
  simp [dmaByte]
@[simp] theorem dmaByte_ppuRendering (page : Byte) (k : Nat) : (dmaByte page s k).ppuRendering = s.ppuRendering := by
  simp [dmaByte]
@[simp] theorem dmaByte_devFaults (page : Byte) (k : Nat) : (dmaByte page s k).devFaults = s.devFaults := by
  simp [dmaByte]

@[simp] theorem dmaCopy_a (page : Byte) : (dmaCopy page s).a = s.a := by
  exact List.foldlRecOn (motive := fun t => t.a = s.a) (List.range 256) (dmaByte page) rfl (fun t h k _ => by simp [h])
@[simp] theorem dmaCopy_x (page : Byte) : (dmaCopy page s).x = s.x := by
  exact List.foldlRecOn (motive := fun t => t.x = s.x) (List.range 256) (dmaByte page) rfl (fun t h k _ => by simp [h])
@[simp] theorem dmaCopy_y (page : Byte) : (dmaCopy page s).y = s.y := by
  exact List.foldlRecOn (motive := fun t => t.y = s.y) (List.range 256) (dmaByte page) rfl (fun t h k _ => by simp [h])
@[simp] theorem dmaCopy_sp (page : Byte) : (dmaCopy page s).sp = s.sp := by
  exact List.foldlRecOn (motive := fun t => t.sp = s.sp) (List.range 256) (dmaByte page) rfl (fun t h k _ => by simp [h])
@[simp] theorem dmaCopy_pc (page : Byte) : (dmaCopy page s).pc = s.pc := by
  exact List.foldlRecOn (motive := fun t => t.pc = s.pc) (List.range 256) (dmaByte page) rfl (fun t h k _ => by simp [h])
@[simp] theorem dmaCopy_n (page : Byte) : (dmaCopy page s).n = s.n := by
  exact List.foldlRecOn (motive := fun t => t.n = s.n) (List.range 256) (dmaByte page) rfl (fun t h k _ => by simp [h])
@[simp] theorem dmaCopy_v (page : Byte) : (dmaCopy page s).v = s.v := by
  exact List.foldlRecOn (motive := fun t => t.v = s.v) (List.range 256) (dmaByte page) rfl (fun t h k _ => by simp [h])
@[simp] theorem dmaCopy_d (page : Byte) : (dmaCopy page s).d = s.d := by
  exact List.foldlRecOn (motive := fun t => t.d = s.d) (List.range 256) (dmaByte page) rfl (fun t h k _ => by simp [h])
@[simp] theorem dmaCopy_i (page : Byte) : (dmaCopy page s).i = s.i := by
  exact List.foldlRecOn (motive := fun t => t.i = s.i) (List.range 256) (dmaByte page) rfl (fun t h k _ => by simp [h])
@[simp] theorem dmaCopy_z (page : Byte) : (dmaCopy page s).z = s.z := by
  exact List.foldlRecOn (motive := fun t => t.z = s.z) (List.range 256) (dmaByte page) rfl (fun t h k _ => by simp [h])
@[simp] theorem dmaCopy_c (page : Byte) : (dmaCopy page s).c = s.c := by
  exact List.foldlRecOn (motive := fun t => t.c = s.c) (List.range 256) (dmaByte page) rfl (fun t h k _ => by simp [h])
@[simp] theorem dmaCopy_stall (page : Byte) : (dmaCopy page s).stall = s.stall := by
  exact List.foldlRecOn (motive := fun t => t.stall = s.stall) (List.range 256) (dmaByte page) rfl (fun t h k _ => by simp [h])
@[simp] theorem dmaCopy_halted (page : Byte) : (dmaCopy page s).halted = s.halted := by
  exact List.foldlRecOn (motive := fun t => t.halted = s.halted) (List.range 256) (dmaByte page) rfl (fun t h k _ => by simp [h])
@[simp] theorem dmaCopy_cycles (page : Byte) : (dmaCopy page s).cycles = s.cycles := by
  exact List.foldlRecOn (motive := fun t => t.cycles = s.cycles) (List.range 256) (dmaByte page) rfl (fun t h k _ => by simp [h])
@[simp] theorem dmaCopy_nmiPending (page : Byte) : (dmaCopy page s).nmiPending = s.nmiPending := by
  exact List.foldlRecOn (motive := fun t => t.nmiPending = s.nmiPending) (List.range 256) (dmaByte page) rfl (fun t h k _ => by simp [h])
@[simp] theorem dmaCopy_irqLevel (page : Byte) : (dmaCopy page s).irqLevel = s.irqLevel := by
  exact List.foldlRecOn (motive := fun t => t.irqLevel = s.irqLevel) (List.range 256) (dmaByte page) rfl (fun t h k _ => by simp [h])
@[simp] theorem dmaCopy_mem (page : Byte) : (dmaCopy page s).mem = s.mem := by
  exact List.foldlRecOn (motive := fun t => t.mem = s.mem) (List.range 256) (dmaByte page) rfl (fun t h k _ => by simp [h])
@[simp] theorem dmaCopy_prgSize (page : Byte) : (dmaCopy page s).prgSize = s.prgSize := by
  exact List.foldlRecOn (motive := fun t => t.prgSize = s.prgSize) (List.range 256) (dmaByte page) rfl (fun t h k _ => by simp [h])
@[simp] theorem dmaCopy_mapper (page : Byte) : (dmaCopy page s).mapper = s.mapper := by
  exact List.foldlRecOn (motive := fun t => t.mapper = s.mapper) (List.range 256) (dmaByte page) rfl (fun t h k _ => by simp [h])
@[simp] theorem dmaCopy_ppuRendering (page : Byte) : (dmaCopy page s).ppuRendering = s.ppuRendering := by
  exact List.foldlRecOn (motive := fun t => t.ppuRendering = s.ppuRendering) (List.range 256) (dmaByte page) rfl (fun t h k _ => by simp [h])
@[simp] theorem dmaCopy_devFaults (page : Byte) : (dmaCopy page s).devFaults = s.devFaults := by
  exact List.foldlRecOn (motive := fun t => t.devFaults = s.devFaults) (List.range 256) (dmaByte page) rfl (fun t h k _ => by simp [h])

@[simp] theorem oamDma_a (tw : Nat) (page : Byte) : (oamDma tw page s).a = s.a := by
  simp [oamDma]
@[simp] theorem oamDma_x (tw : Nat) (page : Byte) : (oamDma tw page s).x = s.x := by
  simp [oamDma]
@[simp] theorem oamDma_y (tw : Nat) (page : Byte) : (oamDma tw page s).y = s.y := by
  simp [oamDma]
@[simp] theorem oamDma_sp (tw : Nat) (page : Byte) : (oamDma tw page s).sp = s.sp := by
  simp [oamDma]
@[simp] theorem oamDma_pc (tw : Nat) (page : Byte) : (oamDma tw page s).pc = s.pc := by
  simp [oamDma]
@[simp] theorem oamDma_n (tw : Nat) (page : Byte) : (oamDma tw page s).n = s.n := by
  simp [oamDma]
@[simp] theorem oamDma_v (tw : Nat) (page : Byte) : (oamDma tw page s).v = s.v := by
  simp [oamDma]
@[simp] theorem oamDma_d (tw : Nat) (page : Byte) : (oamDma tw page s).d = s.d := by
  simp [oamDma]
@[simp] theorem oamDma_i (tw : Nat) (page : Byte) : (oamDma tw page s).i = s.i := by
  simp [oamDma]
@[simp] theorem oamDma_z (tw : Nat) (page : Byte) : (oamDma tw page s).z = s.z := by
  simp [oamDma]
@[simp] theorem oamDma_c (tw : Nat) (page : Byte) : (oamDma tw page s).c = s.c := by
  simp [oamDma]
@[simp] theorem oamDma_halted (tw : Nat) (page : Byte) : (oamDma tw page s).halted = s.halted := by
  simp [oamDma]
@[simp] theorem oamDma_cycles (tw : Nat) (page : Byte) : (oamDma tw page s).cycles = s.cycles := by
  simp [oamDma]
@[simp] theorem oamDma_nmiPending (tw : Nat) (page : Byte) : (oamDma tw page s).nmiPending = s.nmiPending := by
  simp [oamDma]
@[simp] theorem oamDma_irqLevel (tw : Nat) (page : Byte) : (oamDma tw page s).irqLevel = s.irqLevel := by
  simp [oamDma]
@[simp] theorem oamDma_mem (tw : Nat) (page : Byte) : (oamDma tw page s).mem = s.mem := by
  simp [oamDma]
@[simp] theorem oamDma_prgSize (tw : Nat) (page : Byte) : (oamDma tw page s).prgSize = s.prgSize := by
  simp [oamDma]
@[simp] theorem oamDma_mapper (tw : Nat) (page : Byte) : (oamDma tw page s).mapper = s.mapper := by
  simp [oamDma]
@[simp] theorem oamDma_ppuRendering (tw : Nat) (page : Byte) : (oamDma tw page s).ppuRendering = s.ppuRendering := by
  simp [oamDma]
@[simp] theorem oamDma_devFaults (tw : Nat) (page : Byte) : (oamDma tw page s).devFaults = s.devFaults := by
  simp [oamDma]

@[simp] theorem afterCartWrite_a (r : Config.CartResponder) (addr : Word) (b : Byte) :
    (afterCartWrite r addr b s).a = s.a := by
  unfold afterCartWrite; split <;> split <;> rfl
@[simp] theorem afterCartWrite_x (r : Config.CartResponder) (addr : Word) (b : Byte) :
    (afterCartWrite r addr b s).x = s.x := by
  unfold afterCartWrite; split <;> split <;> rfl
@[simp] theorem afterCartWrite_y (r : Config.CartResponder) (addr : Word) (b : Byte) :
    (afterCartWrite r addr b s).y = s.y := by
  unfold afterCartWrite; split <;> split <;> rfl
@[simp] theorem afterCartWrite_sp (r : Config.CartResponder) (addr : Word) (b : Byte) :
    (afterCartWrite r addr b s).sp = s.sp := by
  unfold afterCartWrite; split <;> split <;> rfl
@[simp] theorem afterCartWrite_pc (r : Config.CartResponder) (addr : Word) (b : Byte) :
    (afterCartWrite r addr b s).pc = s.pc := by
  unfold afterCartWrite; split <;> split <;> rfl
@[simp] theorem afterCartWrite_n (r : Config.CartResponder) (addr : Word) (b : Byte) :
    (afterCartWrite r addr b s).n = s.n := by
  unfold afterCartWrite; split <;> split <;> rfl
@[simp] theorem afterCartWrite_v (r : Config.CartResponder) (addr : Word) (b : Byte) :
    (afterCartWrite r addr b s).v = s.v := by
  unfold afterCartWrite; split <;> split <;> rfl
@[simp] theorem afterCartWrite_d (r : Config.CartResponder) (addr : Word) (b : Byte) :
    (afterCartWrite r addr b s).d = s.d := by
  unfold afterCartWrite; split <;> split <;> rfl
@[simp] theorem afterCartWrite_i (r : Config.CartResponder) (addr : Word) (b : Byte) :
    (afterCartWrite r addr b s).i = s.i := by
  unfold afterCartWrite; split <;> split <;> rfl
@[simp] theorem afterCartWrite_z (r : Config.CartResponder) (addr : Word) (b : Byte) :
    (afterCartWrite r addr b s).z = s.z := by
  unfold afterCartWrite; split <;> split <;> rfl
@[simp] theorem afterCartWrite_c (r : Config.CartResponder) (addr : Word) (b : Byte) :
    (afterCartWrite r addr b s).c = s.c := by
  unfold afterCartWrite; split <;> split <;> rfl
@[simp] theorem afterCartWrite_stall (r : Config.CartResponder) (addr : Word) (b : Byte) :
    (afterCartWrite r addr b s).stall = s.stall := by
  unfold afterCartWrite; split <;> split <;> rfl
@[simp] theorem afterCartWrite_halted (r : Config.CartResponder) (addr : Word) (b : Byte) :
    (afterCartWrite r addr b s).halted = s.halted := by
  unfold afterCartWrite; split <;> split <;> rfl
@[simp] theorem afterCartWrite_cycles (r : Config.CartResponder) (addr : Word) (b : Byte) :
    (afterCartWrite r addr b s).cycles = s.cycles := by
  unfold afterCartWrite; split <;> split <;> rfl
@[simp] theorem afterCartWrite_nmiPending (r : Config.CartResponder) (addr : Word) (b : Byte) :
    (afterCartWrite r addr b s).nmiPending = s.nmiPending := by
  unfold afterCartWrite; split <;> split <;> rfl
@[simp] theorem afterCartWrite_irqLevel (r : Config.CartResponder) (addr : Word) (b : Byte) :
    (afterCartWrite r addr b s).irqLevel = s.irqLevel := by
  unfold afterCartWrite; split <;> split <;> rfl
@[simp] theorem afterCartWrite_prgSize (r : Config.CartResponder) (addr : Word) (b : Byte) :
    (afterCartWrite r addr b s).prgSize = s.prgSize := by
  unfold afterCartWrite; split <;> split <;> rfl
@[simp] theorem afterCartWrite_ppuRendering (r : Config.CartResponder) (addr : Word) (b : Byte) :
    (afterCartWrite r addr b s).ppuRendering = s.ppuRendering := by
  unfold afterCartWrite; split <;> split <;> rfl
@[simp] theorem afterCartWrite_devFaults (r : Config.CartResponder) (addr : Word) (b : Byte) :
    (afterCartWrite r addr b s).devFaults = s.devFaults := by
  unfold afterCartWrite; split <;> split <;> rfl
@[simp] theorem afterCartWrite_devEvents (r : Config.CartResponder) (addr : Word) (b : Byte) :
    (afterCartWrite r addr b s).devEvents = s.devEvents := by
  unfold afterCartWrite; split <;> split <;> rfl
@[simp] theorem afterCartWrite_draws (r : Config.CartResponder) (addr : Word) (b : Byte) :
    (afterCartWrite r addr b s).draws = s.draws := by
  unfold afterCartWrite; split <;> split <;> rfl

@[simp] theorem afterWrite_a (tw : Nat) (addr : Word) (b : Byte) :
    (afterWrite tw addr b s).a = s.a := by
  unfold afterWrite; cases region addr <;> simp only [devWrite_a, afterCartWrite_a]; split <;> simp
@[simp] theorem afterWrite_x (tw : Nat) (addr : Word) (b : Byte) :
    (afterWrite tw addr b s).x = s.x := by
  unfold afterWrite; cases region addr <;> simp only [devWrite_x, afterCartWrite_x]; split <;> simp
@[simp] theorem afterWrite_y (tw : Nat) (addr : Word) (b : Byte) :
    (afterWrite tw addr b s).y = s.y := by
  unfold afterWrite; cases region addr <;> simp only [devWrite_y, afterCartWrite_y]; split <;> simp
@[simp] theorem afterWrite_sp (tw : Nat) (addr : Word) (b : Byte) :
    (afterWrite tw addr b s).sp = s.sp := by
  unfold afterWrite; cases region addr <;> simp only [devWrite_sp, afterCartWrite_sp]; split <;> simp
@[simp] theorem afterWrite_pc (tw : Nat) (addr : Word) (b : Byte) :
    (afterWrite tw addr b s).pc = s.pc := by
  unfold afterWrite; cases region addr <;> simp only [devWrite_pc, afterCartWrite_pc]; split <;> simp
@[simp] theorem afterWrite_n (tw : Nat) (addr : Word) (b : Byte) :
    (afterWrite tw addr b s).n = s.n := by
  unfold afterWrite; cases region addr <;> simp only [devWrite_n, afterCartWrite_n]; split <;> simp
@[simp] theorem afterWrite_v (tw : Nat) (addr : Word) (b : Byte) :
    (afterWrite tw addr b s).v = s.v := by
  unfold afterWrite; cases region addr <;> simp only [devWrite_v, afterCartWrite_v]; split <;> simp
@[simp] theorem afterWrite_d (tw : Nat) (addr : Word) (b : Byte) :
    (afterWrite tw addr b s).d = s.d := by
  unfold afterWrite; cases region addr <;> simp only [devWrite_d, afterCartWrite_d]; split <;> simp
@[simp] theorem afterWrite_i (tw : Nat) (addr : Word) (b : Byte) :
    (afterWrite tw addr b s).i = s.i := by
  unfold afterWrite; cases region addr <;> simp only [devWrite_i, afterCartWrite_i]; split <;> simp
@[simp] theorem afterWrite_z (tw : Nat) (addr : Word) (b : Byte) :
    (afterWrite tw addr b s).z = s.z := by
  unfold afterWrite; cases region addr <;> simp only [devWrite_z, afterCartWrite_z]; split <;> simp
@[simp] theorem afterWrite_c (tw : Nat) (addr : Word) (b : Byte) :
    (afterWrite tw addr b s).c = s.c := by
  unfold afterWrite; cases region addr <;> simp only [devWrite_c, afterCartWrite_c]; split <;> simp
@[simp] theorem afterWrite_halted (tw : Nat) (addr : Word) (b : Byte) :
    (afterWrite tw addr b s).halted = s.halted := by
  unfold afterWrite; cases region addr <;> simp only [devWrite_halted, afterCartWrite_halted]; split <;> simp
@[simp] theorem afterWrite_cycles (tw : Nat) (addr : Word) (b : Byte) :
    (afterWrite tw addr b s).cycles = s.cycles := by
  unfold afterWrite; cases region addr <;> simp only [devWrite_cycles, afterCartWrite_cycles]; split <;> simp
@[simp] theorem afterWrite_nmiPending (tw : Nat) (addr : Word) (b : Byte) :
    (afterWrite tw addr b s).nmiPending = s.nmiPending := by
  unfold afterWrite; cases region addr <;> simp only [devWrite_nmiPending, afterCartWrite_nmiPending]; split <;> simp
@[simp] theorem afterWrite_irqLevel (tw : Nat) (addr : Word) (b : Byte) :
    (afterWrite tw addr b s).irqLevel = s.irqLevel := by
  unfold afterWrite; cases region addr <;> simp only [devWrite_irqLevel, afterCartWrite_irqLevel]; split <;> simp
@[simp] theorem afterWrite_prgSize (tw : Nat) (addr : Word) (b : Byte) :
    (afterWrite tw addr b s).prgSize = s.prgSize := by
  unfold afterWrite; cases region addr <;> simp only [devWrite_prgSize, afterCartWrite_prgSize]; split <;> simp
@[simp] theorem afterWrite_ppuRendering (tw : Nat) (addr : Word) (b : Byte) :
    (afterWrite tw addr b s).ppuRendering = s.ppuRendering := by
  unfold afterWrite; cases region addr <;> simp only [devWrite_ppuRendering, afterCartWrite_ppuRendering]; split <;> simp
@[simp] theorem afterWrite_devFaults (tw : Nat) (addr : Word) (b : Byte) :
    (afterWrite tw addr b s).devFaults = s.devFaults := by
  unfold afterWrite; cases region addr <;> simp only [devWrite_devFaults, afterCartWrite_devFaults]; split <;> simp

end Sys2Proof.Machine
end

