-- ==== Sys2Proof/Laws/Ops.lean ====
section
/-! SUPPORT. What each shared operation can do, said once: sequencing, the bus by region, the stack, the
exception entry and the poll. -/

namespace Sys2Proof.Machine

/-! ## Sequencing -/

@[simp] theorem andThen_next {α β : Type} (x : α) (k : α → Res β) : andThen (.next x) k = k x := rfl

@[simp] theorem andThen_fault {α β : Type} (f : Fault) (k : α → Res β) :
    andThen (.fault f) k = .fault f := rfl

@[simp] theorem andThen_refused {α β : Type} (f : Refusal) (k : α → Res β) :
    andThen (.refused f) k = .refused f := rfl

/-- A sequence goes on exactly when both its parts do. -/
theorem andThen_eq_next {α β : Type} {r : Res α} {k : α → Res β} {y : β} :
    andThen r k = .next y ↔ ∃ x, r = .next x ∧ k x = .next y := by
  cases r <;> simp [andThen]

/-! ## Regions -/

theorem region_ram {addr : Word} (h : addr.toNat < 0x2000) : region addr = .ram := by
  unfold region
  rw [if_pos (by omega)]

/-- Zero page is internal RAM (20 R68). -/
theorem region_zeroPage (p : Byte) : region (zext16 p) = .ram :=
  region_ram (by rw [zext16_toNat]; omega)

/-- The stack page is internal RAM (10 R27). -/
theorem region_stack (sp : Byte) : region (stackAddr sp) = .ram :=
  region_ram (by
    have := sp.isLt
    rw [stackAddr, mkWord_toNat, show (0x01 : Byte).toNat = 1 from rfl]
    omega)

theorem ramKey_eq (addr : Word) : ramKey addr = addr.toNat % 0x800 := by
  rw [ramKey, BitVec.toNat_and]
  exact Nat.and_two_pow_sub_one_eq_mod addr.toNat 11

theorem ramKey_lt (addr : Word) : ramKey addr < 0x800 := by
  rw [ramKey_eq]; omega

/-- The physical byte of the stack top: `$0100 + S`. -/
theorem ramKey_stackAddr (sp : Byte) : ramKey (stackAddr sp) = 0x100 + sp.toNat := by
  have := sp.isLt
  rw [ramKey_eq, stackAddr, mkWord_toNat, show (0x01 : Byte).toNat = 1 from rfl]
  omega

theorem ramKey_zeroPage (p : Byte) : ramKey (zext16 p) = p.toNat := by
  rw [ramKey_eq, zext16_toNat]; omega

/-! ## Bus reads -/

/-- A bus read goes on exactly when it does not fault, with the byte and the state of 20 R44. -/
theorem memRead_eq_next {addr : Word} {s : State} {r : Byte × State} :
    memRead addr s = .next r ↔ readFault addr s = none ∧ r = (readByte addr s, afterRead addr s) := by
  unfold memRead
  cases readFault addr s with
  | none => simp [eq_comm]
  | some f => simp

theorem memRead_of_readable {addr : Word} {s : State} (h : readFault addr s = none) :
    memRead addr s = .next (readByte addr s, afterRead addr s) :=
  memRead_eq_next.2 ⟨h, rfl⟩

/-- An address of plain memory: its read never faults, returns the byte at its key, changes nothing. -/
theorem memRead_plain {addr : Word} {s : State} {key : Nat} (h : memKey s addr = some key) :
    memRead addr s = .next (s.mem.read key, s) := by
  unfold memKey at h
  cases hr : region addr <;> rw [hr] at h <;> simp only [reduceCtorEq] at h
  case ram =>
    cases h
    simp [memRead, readFault, readByte, afterRead, hr]
  case cart =>
    unfold cartKey at h
    cases hm : s.mapper <;> simp only [hm, reduceCtorEq] at h
    split at h
    · exact absurd h (by simp only [reduceCtorEq, not_false_eq_true])
    · rename_i h0
      split at h <;> simp only [Option.some.injEq] at h <;> subst h <;> rename_i h1 <;>
        simp only [memRead, readFault, readByte, afterRead, hr, cartReadFault, cartByte, hm, h0, h1, if_false,
          if_true]

theorem memKey_ram {addr : Word} (s : State) (h : region addr = .ram) :
    memKey s addr = some (ramKey addr) := by
  simp [memKey, h]

/-- A zero-page read is a RAM read (20 R68): the pointers of IZX and IZY are `MemRead`s. -/
theorem memRead_zeroPage (p : Byte) (s : State) :
    memRead (zext16 p) s = .next (s.mem.read (ramKey (zext16 p)), s) :=
  memRead_plain (memKey_ram s (region_zeroPage p))

/-- A stack read is a RAM read: what `pulled` returns is a `MemRead` (10 R27). -/
theorem memRead_stack (sp : Byte) (s : State) :
    memRead (stackAddr sp) s = .next (s.mem.read (ramKey (stackAddr sp)), s) :=
  memRead_plain (memKey_ram s (region_stack sp))

/-- A read leaves the state of plain memory's bytes alone. -/
theorem readFault_afterRead (addr other : Word) (s : State) :
    readFault other (afterRead addr s) = readFault other s := by
  unfold readFault devFault ppuDataViolation cartReadFault
  simp

/-! ## Bus writes -/

/-- A bus write goes on exactly when it does not fault, with the state of 20 R45. -/
theorem memWrite_eq_next {tw : Nat} {addr : Word} {b : Byte} {s t : State} :
    memWrite tw addr b s = .next t ↔ writeFault addr b s = none ∧ t = afterWrite tw addr b s := by
  unfold memWrite
  cases writeFault addr b s with
  | none => simp [eq_comm]
  | some f => simp

theorem memWrite_of_writable {tw : Nat} {addr : Word} {b : Byte} {s : State}
    (h : writeFault addr b s = none) : memWrite tw addr b s = .next (afterWrite tw addr b s) :=
  memWrite_eq_next.2 ⟨h, rfl⟩

/-- What a bus write can do to memory: nothing, or one write at the key of its address, which is none of PRG
ROM's (20 R45, R47). -/
theorem afterWrite_mem (tw : Nat) (addr : Word) (b : Byte) (s : State) :
    (afterWrite tw addr b s).mem = s.mem ∨
    ∃ key, memKey s addr = some key ∧ (key < 0x800 ∨ 0x6000 ≤ key ∧ key < 0x8000) ∧
      (afterWrite tw addr b s).mem = s.mem.write key b := by
  unfold afterWrite memKey
  cases hr : region addr
  case ram => exact .inr ⟨_, rfl, .inl (ramKey_lt addr), rfl⟩
  case ppu | test => exact .inl rfl
  case io => simp only; split <;> simp
  case cart =>
    unfold afterCartWrite cartKey
    cases hm : s.mapper
    · simp only
      split
      · rename_i h
        exact .inr ⟨addr.toNat, by rw [if_neg (by omega), if_pos h.2], .inr h, rfl⟩
      · exact .inl rfl
    · simp only; split <;> exact .inl rfl

/-- A bus write changes no byte of plain memory but the one its address selects. -/
theorem afterWrite_read_other (tw : Nat) {addr : Word} (b : Byte) {s : State} {key : Nat}
    (h : memKey s addr ≠ some key) : (afterWrite tw addr b s).mem.read key = s.mem.read key := by
  obtain hm | ⟨k, hk, _, hm⟩ := afterWrite_mem tw addr b s
  · rw [hm]
  · rw [hm]
    exact Memory.read_write_other _ _ (fun e => h (by rw [hk, e]))

/-- A bus write changes the mapper only in its state: NROM stays NROM. -/
theorem afterWrite_nrom (tw : Nat) (addr : Word) (b : Byte) {s : State} (h : s.mapper = .nrom) :
    (afterWrite tw addr b s).mapper = .nrom := by
  unfold afterWrite
  cases region addr
  case io => simp only; split <;> simp [h]
  case cart => simp only [afterCartWrite, h]; split <;> simp [h]
  all_goals exact h

/-- `Push` is a `MemWrite` at `{$01, S}` and a decrement (10 R27). -/
theorem push_eq_memWrite (tw : Nat) (b : Byte) (s : State) :
    memWrite tw (stackAddr s.sp) b s = .next { push b s with sp := s.sp } := by
  simp [memWrite, writeFault, afterWrite, region_stack, push]

/-! ## No access locks up -/

theorem responderFault_ne_lockup {α : Type} (r : Except Nat α) (t : State) :
    responderFault r ≠ some (.lockup t) := by
  cases r <;> simp [responderFault]

theorem devFault_ne_lockup (onWrite : Bool) (reg : Word) (s t : State) :
    devFault onWrite reg s ≠ some (.lockup t) := by
  unfold devFault
  split <;> simp

theorem readFault_ne_lockup (addr : Word) (s t : State) : readFault addr s ≠ some (.lockup t) := by
  unfold readFault
  cases region addr
  case cart => simp only [cartReadFault]; split; split <;> simp; exact responderFault_ne_lockup _ t
  case ram | test => simp [testRegionFault, Config.testRegionPolicy]
  all_goals exact devFault_ne_lockup _ _ s t

theorem writeFault_ne_lockup (addr : Word) (b : Byte) (s t : State) :
    writeFault addr b s ≠ some (.lockup t) := by
  unfold writeFault
  cases region addr
  case cart => simp only [cartWriteFault]; split; split <;> simp; exact responderFault_ne_lockup _ t
  case ram | test => simp [testRegionFault, Config.testRegionPolicy]
  case ppu => exact devFault_ne_lockup _ _ s t
  case io =>
    simp only
    split
    · rename_i h; exact fun e => devFault_ne_lockup _ _ s t (h.trans e)
    · split
      · intro e
        obtain ⟨k, _, h⟩ := List.exists_of_findSome?_eq_some e
        exact readFault_ne_lockup _ s t h
      · simp

/-- Whether an answer is `Lockup`: neither access is. -/
theorem memRead_ne_lockup (addr : Word) (s t : State) : memRead addr s ≠ .fault (.lockup t) := by
  unfold memRead
  split
  · rename_i h; exact fun e => readFault_ne_lockup addr s t (h.trans (by simpa using e))
  · simp

theorem memWrite_ne_lockup (tw : Nat) (addr : Word) (b : Byte) (s t : State) :
    memWrite tw addr b s ≠ .fault (.lockup t) := by
  unfold memWrite
  split
  · rename_i h; exact fun e => writeFault_ne_lockup addr b s t (h.trans (by simpa using e))
  · simp

theorem vectorFault_ne_lockup (vec : Word) (s t : State) : vectorFault vec s ≠ some (.lockup t) := by
  unfold vectorFault
  split
  · rename_i h; exact fun e => readFault_ne_lockup _ s t (h.trans e)
  · exact readFault_ne_lockup _ s t

/-- A sequence stops in a fault where its first part does, or where its second does. -/
theorem andThen_eq_fault {α β : Type} {r : Res α} {k : α → Res β} {e : Fault} :
    andThen r k = .fault e ↔ r = .fault e ∨ ∃ x, r = .next x ∧ k x = .fault e := by
  cases r <;> simp [andThen]

/-! ## The vectors -/

theorem region_cart {addr : Word} (h : 0x4020 ≤ addr.toNat) : region addr = .cart := by
  unfold region
  rw [if_neg (by omega), if_neg (by omega), if_neg (by omega), if_neg (by omega)]

/-- The 16-bit value that two bus reads answer at a vector. -/
def vectorWord (vec : Word) (s : State) : Word := mkWord (readByte (vec + 1) s) (readByte vec s)

/-- Under the NROM instance no vector read faults (20 R47). -/
theorem vectorFault_nrom {vec : Word} {s : State} (hm : s.mapper = .nrom) (h : 0x6000 ≤ vec.toNat)
    (h' : vec.toNat < 0xFFFF) : vectorFault vec s = none := by
  have h1 : (vec + 1).toNat = vec.toNat + 1 := by
    rw [BitVec.toNat_add, show (1 : Word).toNat = 1 from rfl]; omega
  have r : ∀ a : Word, 0x6000 ≤ a.toNat → readFault a s = none := fun a ha => by
    simp only [readFault, region_cart (addr := a) (by omega), cartReadFault, hm]
    rw [if_neg (by omega)]
  simp only [vectorFault, r vec h, r (vec + 1) (by omega)]

/-- A vector read changes nothing; it answers the vector's word or its first fault (20 R47, R67). -/
theorem read16_vector {vec : Word} (s : State) (h : 0x4020 ≤ vec.toNat) (h' : vec.toNat < 0xFFFF) :
    read16 vec s = match vectorFault vec s with
      | some e => .fault e
      | none => .next (vectorWord vec s, s) := by
  have h1 : (vec + 1).toNat = vec.toNat + 1 := by
    rw [BitVec.toNat_add, show (1 : Word).toNat = 1 from rfl]; omega
  have a0 : afterRead vec s = s := by simp only [afterRead, region_cart h]
  have a1 : afterRead (vec + 1) s = s := by
    simp only [afterRead, region_cart (addr := vec + 1) (by omega)]
  unfold read16 vectorFault
  cases h0 : readFault vec s
  · simp only [memRead_of_readable h0, andThen_next, a0]
    cases h2 : readFault (vec + 1) s
    · simp only [memRead_of_readable h2, andThen_next, a1, vectorWord]
    · simp only [memRead, h2, andThen_fault]
  · simp only [memRead, h0, andThen_fault]

/-! ## Exceptions -/

/-- Taking an exception: the state after the pushes, through the vector, or the vector's fault (60 R259, 44
R183). -/
theorem takeException_eq {vec : Word} (ret : Word) (brk : Bool) (s : State)
    (h : 0x4020 ≤ vec.toNat) (h' : vec.toNat < 0xFFFF) :
    takeException vec ret brk s = match vectorFault vec s with
      | some e => .fault e
      | none => .next { push (pack brk s) (push16 ret s) with
          i := true, pc := vectorWord vec (push (pack brk s) (push16 ret s)) } := by
  have hv : vectorFault vec { push (pack brk s) (push16 ret s) with i := true } = vectorFault vec s := rfl
  simp only [takeException, read16_vector _ h h', hv]
  cases vectorFault vec s <;> rfl

/-- What the poll can do: enter the NMI and clear its latch, enter the IRQ, or nothing (60 R253). -/
theorem poll_eq_next {s t : State} (h : poll s = .next t) :
    (s.nmiPending = true ∧ enterInterrupt nmiVector { s with nmiPending := false } = .next t) ∨
    (s.nmiPending = false ∧ s.i = false ∧ s.irqLevel = true ∧ enterInterrupt irqVector s = .next t) ∨
    (s.nmiPending = false ∧ (s.i = true ∨ s.irqLevel = false) ∧ t = s) := by
  unfold poll at h
  split at h
  · exact .inl ⟨‹_›, h⟩
  · rename_i hn
    split at h
    · rename_i hi
      simp only [Bool.and_eq_true, Bool.not_eq_true'] at hi
      exact .inr (.inl ⟨by simpa using hn, hi.1, hi.2, h⟩)
    · rename_i hi
      refine .inr (.inr ⟨by simpa using hn, ?_, by simpa using h.symm⟩)
      cases hs : s.i <;> simp_all

end Sys2Proof.Machine
end

