-- ==== Sys2Proof/Laws/Operands.lean ====
section
/-! SUPPORT. What each shape of instruction can do, said once: every meaning is one of these shapes, so
its next state is read off the shape's lemma. -/

namespace Sys2Proof.Machine

@[simp] theorem dummyRead_none (always : Bool) (m : Mode) (s : State) :
    dummyRead Config.dummyAccess always m s = .next s := rfl

@[simp] theorem dummyWrite_none (tw : Nat) (addr : Word) (b : Byte) (s : State) :
    dummyWrite Config.dummyAccess tw addr b s = .next s := rfl

@[simp] theorem zpPointer_advance (p : Byte) (len : Word) (s : State) :
    zpPointer p (advance len s) = zpPointer p s := rfl

@[simp] theorem baseAddr_advance (m : Mode) (len : Word) (s : State) :
    baseAddr m (advance len s) = baseAddr m s := by cases m <;> rfl

@[simp] theorem effAddr_advance (m : Mode) (len : Word) (s : State) :
    effAddr m (advance len s) = effAddr m s := by cases m <;> rfl

@[simp] theorem pageCross_advance (m : Mode) (len : Word) (s : State) :
    pageCross m (advance len s) = pageCross m s := by
  simp [pageCross]

@[simp] theorem readCost_advance (m : Mode) (len : Word) (s : State) :
    readCost m (advance len s) = readCost m s := by
  simp [readCost]

/-- The pointer of IZX and IZY is two `MemRead`s in zero page (40 R100, R101). -/
theorem zpPointer_eq_reads (p : Byte) (s : State) :
    andThen (memRead (zext16 p) s) (fun lo =>
      andThen (memRead (zext16 (p + 1)) lo.2) fun hi => .next (mkWord hi.1 lo.1, hi.2)) =
      (.next (zpPointer p s, s) : Res (Word × State)) := by
  simp only [memRead_zeroPage, andThen_next, zpPointer]

@[simp] theorem memKey_advance (addr : Word) (len : Word) (s : State) :
    memKey (advance len s) addr = memKey s addr := rfl

@[simp] theorem readFault_advance (addr : Word) (len : Word) (s : State) :
    readFault addr (advance len s) = readFault addr s := rfl

@[simp] theorem readByte_advance (addr : Word) (len : Word) (s : State) :
    readByte addr (advance len s) = readByte addr s := rfl

@[simp] theorem writeFault_advance (addr : Word) (b : Byte) (len : Word) (s : State) :
    writeFault addr b (advance len s) = writeFault addr b s := rfl

theorem afterRead_advance (addr : Word) (len : Word) (s : State) :
    afterRead addr (advance len s) = advance len (afterRead addr s) := by
  unfold afterRead; cases region addr <;> rfl

@[simp] theorem operandReadable_advance (m : Mode) (len : Word) (s : State) :
    OperandReadable m (advance len s) ↔ OperandReadable m s := by cases m <;> rfl

@[simp] theorem operandValue_advance (m : Mode) (len : Word) (s : State) :
    operandValue m (advance len s) = operandValue m s := by cases m <;> rfl

/-- The operand read goes on in one way: when the operand can be read, with its value (40 R103). -/
theorem fetchOperand_eq_next {m : Mode} {s : State} {r : Byte × State} :
    fetchOperand m s = .next r ↔
      OperandReadable m s ∧ r = (operandValue m s, afterOperand m s) := by
  cases m
  case imm n => simp [fetchOperand, OperandReadable, operandValue, afterOperand, eq_comm]
  all_goals exact memRead_eq_next

/-- A read-class instruction: if it goes on, its operand was read and `f` applied to it. -/
theorem readInstr_eq_next {m : Mode} {f : Byte → State → State} {s t : State} :
    readInstr m f s = .next t ↔
      OperandReadable m s ∧
      t = charge (readCost m s)
        (f (operandValue m s) (afterOperand m (advance (modeLength m) s))) := by
  simp only [readInstr, dummyRead_none, andThen_next, andThen_eq_next, readCost_advance,
    fetchOperand_eq_next, operandReadable_advance, operandValue_advance, Host.Outcome.next.injEq]
  constructor
  · rintro ⟨_, ⟨hr, rfl⟩, rfl⟩; exact ⟨hr, rfl⟩
  · rintro ⟨hr, rfl⟩; exact ⟨_, ⟨hr, rfl⟩, rfl⟩

/-- A store-class instruction: if it goes on, its one write did. -/
theorem storeInstr_eq_next {m : Mode} {value : State → Byte} {s t : State} :
    storeInstr m value s = .next t ↔
      writeFault (effAddr m s) (value (advance (modeLength m) s)) s = none ∧
      t = charge (storeCost m)
        (afterWrite (writeCycle (storeCost m) (advance (modeLength m) s)) (effAddr m s)
          (value (advance (modeLength m) s)) (advance (modeLength m) s)) := by
  simp only [storeInstr, dummyRead_none, andThen_next, andThen_eq_next, memWrite_eq_next,
    effAddr_advance, writeFault_advance, Host.Outcome.next.injEq]
  constructor
  · rintro ⟨u, ⟨hw, rfl⟩, rfl⟩; exact ⟨hw, rfl⟩
  · rintro ⟨hw, rfl⟩; exact ⟨_, ⟨hw, rfl⟩, rfl⟩

/-- A read-modify-write instruction on memory: if it goes on, its read and its write did. -/
theorem rmwInstr_eq_next {m : Mode} {result : Byte → Bool → Byte}
    {post : Byte → Byte → State → State} {s t : State} :
    rmwInstr m result post s = .next t ↔
      readFault (effAddr m s) s = none ∧
      writeFault (effAddr m s) (result (readByte (effAddr m s) s) s.c) (afterRead (effAddr m s) s) = none ∧
      t = charge (rmwCost m) (post (readByte (effAddr m s) s) (result (readByte (effAddr m s) s) s.c)
          (afterWrite (writeCycle (rmwCost m) s) (effAddr m s) (result (readByte (effAddr m s) s) s.c)
            (advance (modeLength m) (afterRead (effAddr m s) s)))) := by
  simp only [rmwInstr, dummyRead_none, dummyWrite_none, andThen_next, andThen_eq_next,
    memRead_eq_next, memWrite_eq_next, effAddr_advance, Host.Outcome.next.injEq, advance_c,
    readFault_advance, readByte_advance, afterRead_advance]
  constructor
  · rintro ⟨_, ⟨hr, rfl⟩, _, ⟨hw, rfl⟩, rfl⟩; exact ⟨hr, hw, rfl⟩
  · rintro ⟨hr, hw, rfl⟩; exact ⟨_, ⟨hr, rfl⟩, _, ⟨hw, rfl⟩, rfl⟩

end Sys2Proof.Machine
end

