-- ==== Sys2Proof/Laws/Bus.lean ====
section
/-! SUPPORT. What the bus does not see: registers, flags, `cycles` and the latch. Replacing them commutes
with every bus access. -/

namespace Sys2Proof.Machine

/-- `s` with the registers, flags, counters and latch of `r`: everything a bus access neither reads nor
writes. -/
def withCpu (r s : State) : State :=
  { s with
    a := r.a, x := r.x, y := r.y, sp := r.sp, pc := r.pc
    n := r.n, v := r.v, d := r.d, i := r.i, z := r.z, c := r.c
    halted := r.halted, cycles := r.cycles, nmiPending := r.nmiPending, irqLevel := r.irqLevel }

variable (r s : State)

theorem readFault_withCpu (addr : Word) : readFault addr (withCpu r s) = readFault addr s := rfl

theorem readByte_withCpu (addr : Word) : readByte addr (withCpu r s) = readByte addr s := rfl

theorem memKey_withCpu (addr : Word) : memKey (withCpu r s) addr = memKey s addr := rfl

theorem writeFault_withCpu (addr : Word) (b : Byte) :
    writeFault addr b (withCpu r s) = writeFault addr b s := rfl

theorem afterRead_withCpu (addr : Word) :
    afterRead addr (withCpu r s) = withCpu r (afterRead addr s) := by
  unfold afterRead; cases region addr <;> rfl

theorem dmaByte_withCpu (page : Byte) (k : Nat) :
    dmaByte page (withCpu r s) k = withCpu r (dmaByte page s k) := by
  simp only [dmaByte, afterRead_withCpu]; rfl

theorem dmaCopy_withCpu (page : Byte) : dmaCopy page (withCpu r s) = withCpu r (dmaCopy page s) :=
  List.foldl_hom (withCpu r) (fun t k => dmaByte_withCpu r t page k)

theorem oamDma_withCpu (tw : Nat) (page : Byte) :
    oamDma tw page (withCpu r s) = withCpu r (oamDma tw page s) := by
  simp only [oamDma, dmaCopy_withCpu]; rfl

/-- A bus write does not see the CPU's registers. -/
theorem afterWrite_withCpu (tw : Nat) (addr : Word) (b : Byte) :
    afterWrite tw addr b (withCpu r s) = withCpu r (afterWrite tw addr b s) := by
  unfold afterWrite
  cases region addr <;> try rfl
  case io =>
    simp only
    split
    · exact oamDma_withCpu r (devWrite (devReg addr) b s) tw b
    · rfl
  case cart =>
    simp only [afterCartWrite, show (withCpu r s).mapper = s.mapper from rfl]
    split <;> split <;> rfl

/-! Reads and writes leave what they do not see as it was. -/

theorem withCpu_self : withCpu s s = s := rfl

theorem afterRead_eq_withCpu (addr : Word) : afterRead addr s = withCpu s (afterRead addr s) := by
  have h := afterRead_withCpu s s addr
  rwa [withCpu_self] at h

/-- A bus write changes nothing of the CPU but `stall`, which OAM DMA adds to. -/
theorem afterWrite_eq_withCpu (tw : Nat) (addr : Word) (b : Byte) :
    afterWrite tw addr b s = withCpu s (afterWrite tw addr b s) := by
  have h := afterWrite_withCpu s s tw addr b
  rwa [withCpu_self] at h

/-- The shape the rules are stated in: PC may be moved before or after the write. -/
theorem afterWrite_advance (tw : Nat) (addr : Word) (b : Byte) (len : Word) :
    afterWrite tw addr b (advance len s) = advance len (afterWrite tw addr b s) := by
  have h : advance len s = withCpu (advance len s) s := rfl
  rw [h, afterWrite_withCpu, afterWrite_eq_withCpu s tw addr b]
  rfl

end Sys2Proof.Machine
end

