-- ==== Sys2Proof/Laws/Encode.lean ====
section
/-! SUPPORT. The decoder on byte strings. -/

namespace Sys2Proof

/-- Every mode has one, two or three bytes (30 R70). -/
theorem modeBytes_cases (m : ModeName) : modeBytes m = 1 ∨ modeBytes m = 2 ∨ modeBytes m = 3 := by
  cases m <;> simp [modeBytes]

/-- The decoder needs at most three bytes, and never refuses that many (30 R73, R77). -/
theorem decode_three (op b1 b2 : Byte) (rest : List Byte) :
    decode (op :: b1 :: b2 :: rest) =
      .ok (if opLength op = 1 then (assemble op 0 0, b1 :: b2 :: rest)
        else if opLength op = 2 then (assemble op b1 0, b2 :: rest)
        else (assemble op b1 b2, rest)) := by
  rcases modeBytes_cases (opRow op).mode with h | h | h <;> simp [decode, opLength, h]

end Sys2Proof
end

