-- ==== Sys2Proof/Laws/Kept.lean ====
section
/-! SUPPORT. What no operation of a tick can do: write an input, the image or its size, take back a device
event or a draw, or break the form of memory. One lemma per shared operation and per shape of
instruction. -/

namespace Sys2Proof.Machine

/-- From `s` to `t` the inputs, PRG ROM and its size are as they were, NROM stays NROM, device events and draws only grow,
and memory keeps its canonical form and lists only bytes that exist. -/
structure Kept (s t : State) : Prop where
  irqLevel : t.irqLevel = s.irqLevel
  ppuRendering : t.ppuRendering = s.ppuRendering
  devFaults : t.devFaults = s.devFaults
  prgSize : t.prgSize = s.prgSize
  nrom : s.mapper = .nrom → t.mapper = .nrom
  draws : s.draws ≤ t.draws
  events : ∃ e, t.devEvents = s.devEvents ++ e
  rom : ∀ key, 0x8000 ≤ key → t.mem.read key = s.mem.read key
  canonical : s.mem.wf = true → t.mem.wf = true
  listed : ∀ size, s.mem.all (fun cell => physicalKey size cell.1) = true →
    t.mem.all (fun cell => physicalKey size cell.1) = true

variable {r s t u : State}

theorem Kept.refl (s : State) : Kept s s :=
  ⟨rfl, rfl, rfl, rfl, id, le_rfl, ⟨[], by simp⟩, fun _ _ => rfl, id, fun _ => id⟩

theorem Kept.trans (h : Kept s t) (g : Kept t u) : Kept s u where
  irqLevel := g.irqLevel.trans h.irqLevel
  ppuRendering := g.ppuRendering.trans h.ppuRendering
  devFaults := g.devFaults.trans h.devFaults
  prgSize := g.prgSize.trans h.prgSize
  nrom hm := g.nrom (h.nrom hm)
  draws := h.draws.trans g.draws
  events := by
    obtain ⟨e, he⟩ := h.events
    obtain ⟨f, hf⟩ := g.events
    exact ⟨e ++ f, by rw [hf, he, List.append_assoc]⟩
  rom key hk := (g.rom key hk).trans (h.rom key hk)
  canonical w := g.canonical (h.canonical w)
  listed size w := g.listed size (h.listed size w)

/-- A draw that leaves the rest of what the bus sees keeps everything. -/
theorem Kept.of_draws (k : Nat) (hi : t.irqLevel = s.irqLevel) (hp : t.ppuRendering = s.ppuRendering)
    (hf : t.devFaults = s.devFaults) (hs : t.prgSize = s.prgSize) (hr : t.mapper = s.mapper)
    (hd : t.draws = s.draws + k)
    (he : t.devEvents = s.devEvents) (hm : t.mem = s.mem) : Kept s t :=
  ⟨hi, hp, hf, hs, fun h => hr.trans h, by omega, ⟨[], by simp [he]⟩, fun _ _ => by rw [hm], fun w => hm ▸ w, fun _ w => hm ▸ w⟩

/-- An update of registers, flags, counters or latch alone keeps everything. -/
theorem Kept.of_regs (hi : t.irqLevel = s.irqLevel) (hp : t.ppuRendering = s.ppuRendering)
    (hf : t.devFaults = s.devFaults) (hs : t.prgSize = s.prgSize) (hr : t.mapper = s.mapper)
    (hd : t.draws = s.draws)
    (he : t.devEvents = s.devEvents) (hm : t.mem = s.mem) : Kept s t :=
  Kept.of_draws 0 hi hp hf hs hr hd he hm

/-- One more device event keeps everything. -/
theorem Kept.of_event (e : DevEvent) (k : Nat) (s : State) :
    Kept s { s with devEvents := s.devEvents ++ [e], draws := s.draws + k } :=
  ⟨rfl, rfl, rfl, rfl, id, Nat.le_add_right _ _, ⟨[e], rfl⟩, fun _ _ => rfl, id, fun _ => id⟩

/-- A write to plain memory below the image keeps everything. -/
theorem Kept.of_write {key : Nat} (b : Byte) (s : State) (h : key < 0x800 ∨ 0x6000 ≤ key ∧ key < 0x8000) :
    Kept s { s with mem := s.mem.write key b } where
  irqLevel := rfl
  ppuRendering := rfl
  devFaults := rfl
  prgSize := rfl
  nrom := id
  draws := le_rfl
  events := ⟨[], by simp⟩
  rom other ho := Memory.read_write_other s.mem b (by omega)
  canonical w := Memory.write_wf w key b
  listed size w := Memory.write_all (by
    simp only [physicalKey, Bool.or_eq_true, Bool.and_eq_true, decide_eq_true_eq]
    omega) w

/-! ## Bus, stack, fetch -/

theorem afterRead_kept (addr : Word) (s : State) : Kept s (afterRead addr s) := by
  unfold afterRead
  cases region addr
  case ppu | io => exact Kept.of_event _ 1 s
  case test => exact Kept.of_draws 1 rfl rfl rfl rfl rfl rfl rfl rfl
  all_goals exact Kept.refl s

theorem memRead_kept {addr : Word} {p : Byte × State} (h : memRead addr s = .next p) : Kept s p.2 := by
  obtain ⟨_, rfl⟩ := memRead_eq_next.1 h
  exact afterRead_kept addr s

theorem dmaCopy_kept (page : Byte) (s : State) : Kept s (dmaCopy page s) := by
  unfold dmaCopy
  generalize List.range 256 = ks
  induction ks generalizing s with
  | nil => exact Kept.refl s
  | cons k ks ih =>
    exact ((afterRead_kept _ s).trans (Kept.of_event _ 0 _)).trans (ih (dmaByte page s k))

theorem devWrite_kept (reg : Word) (b : Byte) (s : State) : Kept s (devWrite reg b s) :=
  Kept.of_event (.write reg b) 0 s

theorem oamDma_kept (tw : Nat) (page : Byte) (s : State) : Kept s (oamDma tw page s) := by
  have h := dmaCopy_kept page s
  unfold oamDma
  generalize dmaCopy page s = v at h ⊢
  exact h.trans (Kept.of_regs rfl rfl rfl rfl rfl rfl rfl rfl)

/-- An update of the mapper's state keeps everything, under a mapper other than NROM. -/
theorem Kept.of_mapper {m : Mapper} (s : State) (h : s.mapper ≠ .nrom) : Kept s { s with mapper := m } :=
  ⟨rfl, rfl, rfl, rfl, fun e => absurd e h, le_rfl, ⟨[], by simp⟩, fun _ _ => rfl, id, fun _ => id⟩

theorem afterCartWrite_kept (r : Config.CartResponder) (addr : Word) (b : Byte) (s : State) :
    Kept s (afterCartWrite r addr b s) := by
  unfold afterCartWrite
  split
  · split
    · exact Kept.of_write b s (.inr ‹_›)
    · exact Kept.refl s
  · rename_i hm
    split
    · exact Kept.of_mapper s (by rw [hm]; exact Mapper.noConfusion)
    · exact Kept.refl s

theorem afterWrite_kept (tw : Nat) (addr : Word) (b : Byte) (s : State) :
    Kept s (afterWrite tw addr b s) := by
  unfold afterWrite
  cases region addr
  case ram => exact Kept.of_write b s (.inl (ramKey_lt addr))
  case cart => exact afterCartWrite_kept _ addr b s
  case ppu => exact devWrite_kept _ b s
  case io =>
    simp only
    split
    · exact (devWrite_kept _ b s).trans (oamDma_kept tw b _)
    · exact devWrite_kept _ b s
  case test => exact Kept.refl s

theorem memWrite_kept {tw : Nat} {addr : Word} {b : Byte} (h : memWrite tw addr b s = .next t) :
    Kept s t := by
  obtain ⟨_, rfl⟩ := memWrite_eq_next.1 h
  exact afterWrite_kept tw addr b s

theorem push_kept (b : Byte) (s : State) : Kept s (push b s) :=
  (Kept.of_write b s (.inl (ramKey_lt (stackAddr s.sp)))).trans
    (Kept.of_regs rfl rfl rfl rfl rfl rfl rfl rfl)

theorem fetchInstr_kept {p : Instr × State} (h : fetchInstr s = .next p) : Kept s p.2 := by
  obtain ⟨op, h0, h⟩ := andThen_eq_next.1 h
  have k0 := memRead_kept h0
  split at h
  · cases h; exact k0
  · obtain ⟨b1, h1, h⟩ := andThen_eq_next.1 h
    have k1 := k0.trans (memRead_kept h1)
    split at h
    · cases h; exact k1
    · obtain ⟨b2, h2, h⟩ := andThen_eq_next.1 h
      cases h
      exact k1.trans (memRead_kept h2)

/-! ## Exceptions -/

theorem takeException_kept {vec ret : Word} {brk : Bool} (h : takeException vec ret brk s = .next t) :
    Kept s t := by
  obtain ⟨w, hw, h⟩ := andThen_eq_next.1 h
  cases h
  obtain ⟨lo, hlo, hw⟩ := andThen_eq_next.1 hw
  obtain ⟨hi, hhi, hw⟩ := andThen_eq_next.1 hw
  cases hw
  have k0 : Kept s (push (pack brk s) (push16 ret s)) :=
    ((push_kept _ s).trans (push_kept _ _)).trans (push_kept _ _)
  have k1 : Kept _ { push (pack brk s) (push16 ret s) with i := true } :=
    k0.trans (Kept.of_regs rfl rfl rfl rfl rfl rfl rfl rfl)
  exact ((k1.trans (memRead_kept hlo)).trans (memRead_kept hhi)).trans
    (Kept.of_regs rfl rfl rfl rfl rfl rfl rfl rfl)

theorem enterInterrupt_kept {vec : Word} (h : enterInterrupt vec s = .next t) : Kept s t := by
  obtain ⟨u, hu, h⟩ := andThen_eq_next.1 h
  cases h
  exact (takeException_kept hu).trans (Kept.of_regs rfl rfl rfl rfl rfl rfl rfl rfl)

theorem poll_kept (h : poll s = .next t) : Kept s t := by
  rcases poll_eq_next h with ⟨_, h⟩ | ⟨_, _, _, h⟩ | ⟨_, _, rfl⟩
  · have k : Kept s { s with nmiPending := false } := Kept.of_regs rfl rfl rfl rfl rfl rfl rfl rfl
    exact k.trans (enterInterrupt_kept h)
  · exact enterInterrupt_kept h
  · exact Kept.refl _

/-! ## The shapes of instruction -/

theorem afterOperand_kept (m : Mode) (s : State) : Kept s (afterOperand m s) := by
  cases m
  case imm => exact Kept.refl s
  all_goals exact afterRead_kept _ s

theorem advance_kept (len : Word) (s : State) : Kept s (advance len s) :=
  Kept.of_regs rfl rfl rfl rfl rfl rfl rfl rfl

theorem charge_kept (cost : Nat) (s : State) : Kept s (charge cost s) :=
  Kept.of_regs rfl rfl rfl rfl rfl rfl rfl rfl

theorem readInstr_kept {m : Mode} {f : Byte → State → State} (hf : ∀ b v, Kept v (f b v))
    (h : readInstr m f s = .next t) : Kept s t := by
  obtain ⟨_, rfl⟩ := readInstr_eq_next.1 h
  exact (((advance_kept _ s).trans (afterOperand_kept m _)).trans (hf _ _)).trans (charge_kept _ _)

theorem storeInstr_kept {m : Mode} {value : State → Byte} (h : storeInstr m value s = .next t) :
    Kept s t := by
  obtain ⟨_, rfl⟩ := storeInstr_eq_next.1 h
  exact ((advance_kept _ s).trans (afterWrite_kept _ _ _ _)).trans (charge_kept _ _)

theorem rmwInstr_kept {m : Mode} {result : Byte → Bool → Byte} {post : Byte → Byte → State → State}
    (hp : ∀ b c v, Kept v (post b c v)) (h : rmwInstr m result post s = .next t) : Kept s t := by
  obtain ⟨_, _, rfl⟩ := rmwInstr_eq_next.1 h
  exact ((((afterRead_kept _ s).trans (advance_kept _ _)).trans (afterWrite_kept _ _ _ _)).trans
    (hp _ _ _)).trans (charge_kept _ _)

theorem accInstr_kept {result : Byte → Bool → Byte} {post : Byte → Byte → State → State}
    (hp : ∀ b c v, Kept v (post b c v)) (h : accInstr result post s = .next t) : Kept s t := by
  cases h
  refine Kept.trans ?_ (charge_kept 2 _)
  refine Kept.trans ?_ (hp _ _ _)
  exact Kept.of_regs rfl rfl rfl rfl rfl rfl rfl rfl

theorem impliedInstr_kept {cost : Nat} {f : State → State} (hf : ∀ v, Kept v (f v))
    (h : impliedInstr cost f s = .next t) : Kept s t := by
  cases h
  exact ((advance_kept 1 s).trans (hf _)).trans (charge_kept cost _)

end Sys2Proof.Machine
end

