-- ==== Sys2Proof/Laws/PerInstr.lean ====
section
/-! SUPPORT. Laws of every instruction as it is written: one lemma per constructor. -/

namespace Sys2Proof.Laws.Encoding

open Sys2Proof.Machine (loByte hiByte)

/-- An instruction is written as an opcode and the operand bytes that opcode's table row asks for (30 R70,
R73). -/
def Statement (i : Instr) : Prop :=
  ∃ op operand, encode i = op :: operand ∧ operand.length + 1 = opLength op

theorem brk : Statement (.brk) := ⟨0x00, [], rfl, rfl⟩
theorem oraIzx (n : Byte) : Statement (.oraIzx n) := ⟨0x01, [n], rfl, rfl⟩
theorem jam02 : Statement (.jam02) := ⟨0x02, [], rfl, rfl⟩
theorem sloIzx (n : Byte) : Statement (.sloIzx n) := ⟨0x03, [n], rfl, rfl⟩
theorem nopZp04 (n : Byte) : Statement (.nopZp04 n) := ⟨0x04, [n], rfl, rfl⟩
theorem oraZp (n : Byte) : Statement (.oraZp n) := ⟨0x05, [n], rfl, rfl⟩
theorem aslZp (n : Byte) : Statement (.aslZp n) := ⟨0x06, [n], rfl, rfl⟩
theorem sloZp (n : Byte) : Statement (.sloZp n) := ⟨0x07, [n], rfl, rfl⟩
theorem php : Statement (.php) := ⟨0x08, [], rfl, rfl⟩
theorem oraImm (n : Byte) : Statement (.oraImm n) := ⟨0x09, [n], rfl, rfl⟩
theorem aslAcc : Statement (.aslAcc) := ⟨0x0A, [], rfl, rfl⟩
theorem anc0B (n : Byte) : Statement (.anc0B n) := ⟨0x0B, [n], rfl, rfl⟩
theorem nopAbs0C (addr : Word) : Statement (.nopAbs0C addr) := ⟨0x0C, [loByte addr, hiByte addr], rfl, rfl⟩
theorem oraAbs (addr : Word) : Statement (.oraAbs addr) := ⟨0x0D, [loByte addr, hiByte addr], rfl, rfl⟩
theorem aslAbs (addr : Word) : Statement (.aslAbs addr) := ⟨0x0E, [loByte addr, hiByte addr], rfl, rfl⟩
theorem sloAbs (addr : Word) : Statement (.sloAbs addr) := ⟨0x0F, [loByte addr, hiByte addr], rfl, rfl⟩
theorem bpl (n : Byte) : Statement (.bpl n) := ⟨0x10, [n], rfl, rfl⟩
theorem oraIzy (n : Byte) : Statement (.oraIzy n) := ⟨0x11, [n], rfl, rfl⟩
theorem jam12 : Statement (.jam12) := ⟨0x12, [], rfl, rfl⟩
theorem sloIzy (n : Byte) : Statement (.sloIzy n) := ⟨0x13, [n], rfl, rfl⟩
theorem nopZpx14 (n : Byte) : Statement (.nopZpx14 n) := ⟨0x14, [n], rfl, rfl⟩
theorem oraZpx (n : Byte) : Statement (.oraZpx n) := ⟨0x15, [n], rfl, rfl⟩
theorem aslZpx (n : Byte) : Statement (.aslZpx n) := ⟨0x16, [n], rfl, rfl⟩
theorem sloZpx (n : Byte) : Statement (.sloZpx n) := ⟨0x17, [n], rfl, rfl⟩
theorem clc : Statement (.clc) := ⟨0x18, [], rfl, rfl⟩
theorem oraAby (addr : Word) : Statement (.oraAby addr) := ⟨0x19, [loByte addr, hiByte addr], rfl, rfl⟩
theorem nopImp1A : Statement (.nopImp1A) := ⟨0x1A, [], rfl, rfl⟩
theorem sloAby (addr : Word) : Statement (.sloAby addr) := ⟨0x1B, [loByte addr, hiByte addr], rfl, rfl⟩
theorem nopAbx1C (addr : Word) : Statement (.nopAbx1C addr) := ⟨0x1C, [loByte addr, hiByte addr], rfl, rfl⟩
theorem oraAbx (addr : Word) : Statement (.oraAbx addr) := ⟨0x1D, [loByte addr, hiByte addr], rfl, rfl⟩
theorem aslAbx (addr : Word) : Statement (.aslAbx addr) := ⟨0x1E, [loByte addr, hiByte addr], rfl, rfl⟩
theorem sloAbx (addr : Word) : Statement (.sloAbx addr) := ⟨0x1F, [loByte addr, hiByte addr], rfl, rfl⟩
theorem jsrAbs (addr : Word) : Statement (.jsrAbs addr) := ⟨0x20, [loByte addr, hiByte addr], rfl, rfl⟩
theorem andIzx (n : Byte) : Statement (.andIzx n) := ⟨0x21, [n], rfl, rfl⟩
theorem jam22 : Statement (.jam22) := ⟨0x22, [], rfl, rfl⟩
theorem rlaIzx (n : Byte) : Statement (.rlaIzx n) := ⟨0x23, [n], rfl, rfl⟩
theorem bitZp (n : Byte) : Statement (.bitZp n) := ⟨0x24, [n], rfl, rfl⟩
theorem andZp (n : Byte) : Statement (.andZp n) := ⟨0x25, [n], rfl, rfl⟩
theorem rolZp (n : Byte) : Statement (.rolZp n) := ⟨0x26, [n], rfl, rfl⟩
theorem rlaZp (n : Byte) : Statement (.rlaZp n) := ⟨0x27, [n], rfl, rfl⟩
theorem plp : Statement (.plp) := ⟨0x28, [], rfl, rfl⟩
theorem andImm (n : Byte) : Statement (.andImm n) := ⟨0x29, [n], rfl, rfl⟩
theorem rolAcc : Statement (.rolAcc) := ⟨0x2A, [], rfl, rfl⟩
theorem anc2B (n : Byte) : Statement (.anc2B n) := ⟨0x2B, [n], rfl, rfl⟩
theorem bitAbs (addr : Word) : Statement (.bitAbs addr) := ⟨0x2C, [loByte addr, hiByte addr], rfl, rfl⟩
theorem andAbs (addr : Word) : Statement (.andAbs addr) := ⟨0x2D, [loByte addr, hiByte addr], rfl, rfl⟩
theorem rolAbs (addr : Word) : Statement (.rolAbs addr) := ⟨0x2E, [loByte addr, hiByte addr], rfl, rfl⟩
theorem rlaAbs (addr : Word) : Statement (.rlaAbs addr) := ⟨0x2F, [loByte addr, hiByte addr], rfl, rfl⟩
theorem bmi (n : Byte) : Statement (.bmi n) := ⟨0x30, [n], rfl, rfl⟩
theorem andIzy (n : Byte) : Statement (.andIzy n) := ⟨0x31, [n], rfl, rfl⟩
theorem jam32 : Statement (.jam32) := ⟨0x32, [], rfl, rfl⟩
theorem rlaIzy (n : Byte) : Statement (.rlaIzy n) := ⟨0x33, [n], rfl, rfl⟩
theorem nopZpx34 (n : Byte) : Statement (.nopZpx34 n) := ⟨0x34, [n], rfl, rfl⟩
theorem andZpx (n : Byte) : Statement (.andZpx n) := ⟨0x35, [n], rfl, rfl⟩
theorem rolZpx (n : Byte) : Statement (.rolZpx n) := ⟨0x36, [n], rfl, rfl⟩
theorem rlaZpx (n : Byte) : Statement (.rlaZpx n) := ⟨0x37, [n], rfl, rfl⟩
theorem sec : Statement (.sec) := ⟨0x38, [], rfl, rfl⟩
theorem andAby (addr : Word) : Statement (.andAby addr) := ⟨0x39, [loByte addr, hiByte addr], rfl, rfl⟩
theorem nopImp3A : Statement (.nopImp3A) := ⟨0x3A, [], rfl, rfl⟩
theorem rlaAby (addr : Word) : Statement (.rlaAby addr) := ⟨0x3B, [loByte addr, hiByte addr], rfl, rfl⟩
theorem nopAbx3C (addr : Word) : Statement (.nopAbx3C addr) := ⟨0x3C, [loByte addr, hiByte addr], rfl, rfl⟩
theorem andAbx (addr : Word) : Statement (.andAbx addr) := ⟨0x3D, [loByte addr, hiByte addr], rfl, rfl⟩
theorem rolAbx (addr : Word) : Statement (.rolAbx addr) := ⟨0x3E, [loByte addr, hiByte addr], rfl, rfl⟩
theorem rlaAbx (addr : Word) : Statement (.rlaAbx addr) := ⟨0x3F, [loByte addr, hiByte addr], rfl, rfl⟩
theorem rti : Statement (.rti) := ⟨0x40, [], rfl, rfl⟩
theorem eorIzx (n : Byte) : Statement (.eorIzx n) := ⟨0x41, [n], rfl, rfl⟩
theorem jam42 : Statement (.jam42) := ⟨0x42, [], rfl, rfl⟩
theorem sreIzx (n : Byte) : Statement (.sreIzx n) := ⟨0x43, [n], rfl, rfl⟩
theorem nopZp44 (n : Byte) : Statement (.nopZp44 n) := ⟨0x44, [n], rfl, rfl⟩
theorem eorZp (n : Byte) : Statement (.eorZp n) := ⟨0x45, [n], rfl, rfl⟩
theorem lsrZp (n : Byte) : Statement (.lsrZp n) := ⟨0x46, [n], rfl, rfl⟩
theorem sreZp (n : Byte) : Statement (.sreZp n) := ⟨0x47, [n], rfl, rfl⟩
theorem pha : Statement (.pha) := ⟨0x48, [], rfl, rfl⟩
theorem eorImm (n : Byte) : Statement (.eorImm n) := ⟨0x49, [n], rfl, rfl⟩
theorem lsrAcc : Statement (.lsrAcc) := ⟨0x4A, [], rfl, rfl⟩
theorem alrImm (n : Byte) : Statement (.alrImm n) := ⟨0x4B, [n], rfl, rfl⟩
theorem jmpAbs (addr : Word) : Statement (.jmpAbs addr) := ⟨0x4C, [loByte addr, hiByte addr], rfl, rfl⟩
theorem eorAbs (addr : Word) : Statement (.eorAbs addr) := ⟨0x4D, [loByte addr, hiByte addr], rfl, rfl⟩
theorem lsrAbs (addr : Word) : Statement (.lsrAbs addr) := ⟨0x4E, [loByte addr, hiByte addr], rfl, rfl⟩
theorem sreAbs (addr : Word) : Statement (.sreAbs addr) := ⟨0x4F, [loByte addr, hiByte addr], rfl, rfl⟩
theorem bvc (n : Byte) : Statement (.bvc n) := ⟨0x50, [n], rfl, rfl⟩
theorem eorIzy (n : Byte) : Statement (.eorIzy n) := ⟨0x51, [n], rfl, rfl⟩
theorem jam52 : Statement (.jam52) := ⟨0x52, [], rfl, rfl⟩
theorem sreIzy (n : Byte) : Statement (.sreIzy n) := ⟨0x53, [n], rfl, rfl⟩
theorem nopZpx54 (n : Byte) : Statement (.nopZpx54 n) := ⟨0x54, [n], rfl, rfl⟩
theorem eorZpx (n : Byte) : Statement (.eorZpx n) := ⟨0x55, [n], rfl, rfl⟩
theorem lsrZpx (n : Byte) : Statement (.lsrZpx n) := ⟨0x56, [n], rfl, rfl⟩
theorem sreZpx (n : Byte) : Statement (.sreZpx n) := ⟨0x57, [n], rfl, rfl⟩
theorem cli : Statement (.cli) := ⟨0x58, [], rfl, rfl⟩
theorem eorAby (addr : Word) : Statement (.eorAby addr) := ⟨0x59, [loByte addr, hiByte addr], rfl, rfl⟩
theorem nopImp5A : Statement (.nopImp5A) := ⟨0x5A, [], rfl, rfl⟩
theorem sreAby (addr : Word) : Statement (.sreAby addr) := ⟨0x5B, [loByte addr, hiByte addr], rfl, rfl⟩
theorem nopAbx5C (addr : Word) : Statement (.nopAbx5C addr) := ⟨0x5C, [loByte addr, hiByte addr], rfl, rfl⟩
theorem eorAbx (addr : Word) : Statement (.eorAbx addr) := ⟨0x5D, [loByte addr, hiByte addr], rfl, rfl⟩
theorem lsrAbx (addr : Word) : Statement (.lsrAbx addr) := ⟨0x5E, [loByte addr, hiByte addr], rfl, rfl⟩
theorem sreAbx (addr : Word) : Statement (.sreAbx addr) := ⟨0x5F, [loByte addr, hiByte addr], rfl, rfl⟩
theorem rts : Statement (.rts) := ⟨0x60, [], rfl, rfl⟩
theorem adcIzx (n : Byte) : Statement (.adcIzx n) := ⟨0x61, [n], rfl, rfl⟩
theorem jam62 : Statement (.jam62) := ⟨0x62, [], rfl, rfl⟩
theorem rraIzx (n : Byte) : Statement (.rraIzx n) := ⟨0x63, [n], rfl, rfl⟩
theorem nopZp64 (n : Byte) : Statement (.nopZp64 n) := ⟨0x64, [n], rfl, rfl⟩
theorem adcZp (n : Byte) : Statement (.adcZp n) := ⟨0x65, [n], rfl, rfl⟩
theorem rorZp (n : Byte) : Statement (.rorZp n) := ⟨0x66, [n], rfl, rfl⟩
theorem rraZp (n : Byte) : Statement (.rraZp n) := ⟨0x67, [n], rfl, rfl⟩
theorem pla : Statement (.pla) := ⟨0x68, [], rfl, rfl⟩
theorem adcImm (n : Byte) : Statement (.adcImm n) := ⟨0x69, [n], rfl, rfl⟩
theorem rorAcc : Statement (.rorAcc) := ⟨0x6A, [], rfl, rfl⟩
theorem arrImm (n : Byte) : Statement (.arrImm n) := ⟨0x6B, [n], rfl, rfl⟩
theorem jmpInd (addr : Word) : Statement (.jmpInd addr) := ⟨0x6C, [loByte addr, hiByte addr], rfl, rfl⟩
theorem adcAbs (addr : Word) : Statement (.adcAbs addr) := ⟨0x6D, [loByte addr, hiByte addr], rfl, rfl⟩
theorem rorAbs (addr : Word) : Statement (.rorAbs addr) := ⟨0x6E, [loByte addr, hiByte addr], rfl, rfl⟩
theorem rraAbs (addr : Word) : Statement (.rraAbs addr) := ⟨0x6F, [loByte addr, hiByte addr], rfl, rfl⟩
theorem bvs (n : Byte) : Statement (.bvs n) := ⟨0x70, [n], rfl, rfl⟩
theorem adcIzy (n : Byte) : Statement (.adcIzy n) := ⟨0x71, [n], rfl, rfl⟩
theorem jam72 : Statement (.jam72) := ⟨0x72, [], rfl, rfl⟩
theorem rraIzy (n : Byte) : Statement (.rraIzy n) := ⟨0x73, [n], rfl, rfl⟩
theorem nopZpx74 (n : Byte) : Statement (.nopZpx74 n) := ⟨0x74, [n], rfl, rfl⟩
theorem adcZpx (n : Byte) : Statement (.adcZpx n) := ⟨0x75, [n], rfl, rfl⟩
theorem rorZpx (n : Byte) : Statement (.rorZpx n) := ⟨0x76, [n], rfl, rfl⟩
theorem rraZpx (n : Byte) : Statement (.rraZpx n) := ⟨0x77, [n], rfl, rfl⟩
theorem sei : Statement (.sei) := ⟨0x78, [], rfl, rfl⟩
theorem adcAby (addr : Word) : Statement (.adcAby addr) := ⟨0x79, [loByte addr, hiByte addr], rfl, rfl⟩
theorem nopImp7A : Statement (.nopImp7A) := ⟨0x7A, [], rfl, rfl⟩
theorem rraAby (addr : Word) : Statement (.rraAby addr) := ⟨0x7B, [loByte addr, hiByte addr], rfl, rfl⟩
theorem nopAbx7C (addr : Word) : Statement (.nopAbx7C addr) := ⟨0x7C, [loByte addr, hiByte addr], rfl, rfl⟩
theorem adcAbx (addr : Word) : Statement (.adcAbx addr) := ⟨0x7D, [loByte addr, hiByte addr], rfl, rfl⟩
theorem rorAbx (addr : Word) : Statement (.rorAbx addr) := ⟨0x7E, [loByte addr, hiByte addr], rfl, rfl⟩
theorem rraAbx (addr : Word) : Statement (.rraAbx addr) := ⟨0x7F, [loByte addr, hiByte addr], rfl, rfl⟩
theorem nopImm80 (n : Byte) : Statement (.nopImm80 n) := ⟨0x80, [n], rfl, rfl⟩
theorem staIzx (n : Byte) : Statement (.staIzx n) := ⟨0x81, [n], rfl, rfl⟩
theorem nopImm82 (n : Byte) : Statement (.nopImm82 n) := ⟨0x82, [n], rfl, rfl⟩
theorem saxIzx (n : Byte) : Statement (.saxIzx n) := ⟨0x83, [n], rfl, rfl⟩
theorem styZp (n : Byte) : Statement (.styZp n) := ⟨0x84, [n], rfl, rfl⟩
theorem staZp (n : Byte) : Statement (.staZp n) := ⟨0x85, [n], rfl, rfl⟩
theorem stxZp (n : Byte) : Statement (.stxZp n) := ⟨0x86, [n], rfl, rfl⟩
theorem saxZp (n : Byte) : Statement (.saxZp n) := ⟨0x87, [n], rfl, rfl⟩
theorem dey : Statement (.dey) := ⟨0x88, [], rfl, rfl⟩
theorem nopImm89 (n : Byte) : Statement (.nopImm89 n) := ⟨0x89, [n], rfl, rfl⟩
theorem txa : Statement (.txa) := ⟨0x8A, [], rfl, rfl⟩
theorem aneImm (n : Byte) : Statement (.aneImm n) := ⟨0x8B, [n], rfl, rfl⟩
theorem styAbs (addr : Word) : Statement (.styAbs addr) := ⟨0x8C, [loByte addr, hiByte addr], rfl, rfl⟩
theorem staAbs (addr : Word) : Statement (.staAbs addr) := ⟨0x8D, [loByte addr, hiByte addr], rfl, rfl⟩
theorem stxAbs (addr : Word) : Statement (.stxAbs addr) := ⟨0x8E, [loByte addr, hiByte addr], rfl, rfl⟩
theorem saxAbs (addr : Word) : Statement (.saxAbs addr) := ⟨0x8F, [loByte addr, hiByte addr], rfl, rfl⟩
theorem bcc (n : Byte) : Statement (.bcc n) := ⟨0x90, [n], rfl, rfl⟩
theorem staIzy (n : Byte) : Statement (.staIzy n) := ⟨0x91, [n], rfl, rfl⟩
theorem jam92 : Statement (.jam92) := ⟨0x92, [], rfl, rfl⟩
theorem shaIzy (n : Byte) : Statement (.shaIzy n) := ⟨0x93, [n], rfl, rfl⟩
theorem styZpx (n : Byte) : Statement (.styZpx n) := ⟨0x94, [n], rfl, rfl⟩
theorem staZpx (n : Byte) : Statement (.staZpx n) := ⟨0x95, [n], rfl, rfl⟩
theorem stxZpy (n : Byte) : Statement (.stxZpy n) := ⟨0x96, [n], rfl, rfl⟩
theorem saxZpy (n : Byte) : Statement (.saxZpy n) := ⟨0x97, [n], rfl, rfl⟩
theorem tya : Statement (.tya) := ⟨0x98, [], rfl, rfl⟩
theorem staAby (addr : Word) : Statement (.staAby addr) := ⟨0x99, [loByte addr, hiByte addr], rfl, rfl⟩
theorem txs : Statement (.txs) := ⟨0x9A, [], rfl, rfl⟩
theorem tasAby (addr : Word) : Statement (.tasAby addr) := ⟨0x9B, [loByte addr, hiByte addr], rfl, rfl⟩
theorem shyAbx (addr : Word) : Statement (.shyAbx addr) := ⟨0x9C, [loByte addr, hiByte addr], rfl, rfl⟩
theorem staAbx (addr : Word) : Statement (.staAbx addr) := ⟨0x9D, [loByte addr, hiByte addr], rfl, rfl⟩
theorem shxAby (addr : Word) : Statement (.shxAby addr) := ⟨0x9E, [loByte addr, hiByte addr], rfl, rfl⟩
theorem shaAby (addr : Word) : Statement (.shaAby addr) := ⟨0x9F, [loByte addr, hiByte addr], rfl, rfl⟩
theorem ldyImm (n : Byte) : Statement (.ldyImm n) := ⟨0xA0, [n], rfl, rfl⟩
theorem ldaIzx (n : Byte) : Statement (.ldaIzx n) := ⟨0xA1, [n], rfl, rfl⟩
theorem ldxImm (n : Byte) : Statement (.ldxImm n) := ⟨0xA2, [n], rfl, rfl⟩
theorem laxIzx (n : Byte) : Statement (.laxIzx n) := ⟨0xA3, [n], rfl, rfl⟩
theorem ldyZp (n : Byte) : Statement (.ldyZp n) := ⟨0xA4, [n], rfl, rfl⟩
theorem ldaZp (n : Byte) : Statement (.ldaZp n) := ⟨0xA5, [n], rfl, rfl⟩
theorem ldxZp (n : Byte) : Statement (.ldxZp n) := ⟨0xA6, [n], rfl, rfl⟩
theorem laxZp (n : Byte) : Statement (.laxZp n) := ⟨0xA7, [n], rfl, rfl⟩
theorem tay : Statement (.tay) := ⟨0xA8, [], rfl, rfl⟩
theorem ldaImm (n : Byte) : Statement (.ldaImm n) := ⟨0xA9, [n], rfl, rfl⟩
theorem tax : Statement (.tax) := ⟨0xAA, [], rfl, rfl⟩
theorem lxaImm (n : Byte) : Statement (.lxaImm n) := ⟨0xAB, [n], rfl, rfl⟩
theorem ldyAbs (addr : Word) : Statement (.ldyAbs addr) := ⟨0xAC, [loByte addr, hiByte addr], rfl, rfl⟩
theorem ldaAbs (addr : Word) : Statement (.ldaAbs addr) := ⟨0xAD, [loByte addr, hiByte addr], rfl, rfl⟩
theorem ldxAbs (addr : Word) : Statement (.ldxAbs addr) := ⟨0xAE, [loByte addr, hiByte addr], rfl, rfl⟩
theorem laxAbs (addr : Word) : Statement (.laxAbs addr) := ⟨0xAF, [loByte addr, hiByte addr], rfl, rfl⟩
theorem bcs (n : Byte) : Statement (.bcs n) := ⟨0xB0, [n], rfl, rfl⟩
theorem ldaIzy (n : Byte) : Statement (.ldaIzy n) := ⟨0xB1, [n], rfl, rfl⟩
theorem jamB2 : Statement (.jamB2) := ⟨0xB2, [], rfl, rfl⟩
theorem laxIzy (n : Byte) : Statement (.laxIzy n) := ⟨0xB3, [n], rfl, rfl⟩
theorem ldyZpx (n : Byte) : Statement (.ldyZpx n) := ⟨0xB4, [n], rfl, rfl⟩
theorem ldaZpx (n : Byte) : Statement (.ldaZpx n) := ⟨0xB5, [n], rfl, rfl⟩
theorem ldxZpy (n : Byte) : Statement (.ldxZpy n) := ⟨0xB6, [n], rfl, rfl⟩
theorem laxZpy (n : Byte) : Statement (.laxZpy n) := ⟨0xB7, [n], rfl, rfl⟩
theorem clv : Statement (.clv) := ⟨0xB8, [], rfl, rfl⟩
theorem ldaAby (addr : Word) : Statement (.ldaAby addr) := ⟨0xB9, [loByte addr, hiByte addr], rfl, rfl⟩
theorem tsx : Statement (.tsx) := ⟨0xBA, [], rfl, rfl⟩
theorem lasAby (addr : Word) : Statement (.lasAby addr) := ⟨0xBB, [loByte addr, hiByte addr], rfl, rfl⟩
theorem ldyAbx (addr : Word) : Statement (.ldyAbx addr) := ⟨0xBC, [loByte addr, hiByte addr], rfl, rfl⟩
theorem ldaAbx (addr : Word) : Statement (.ldaAbx addr) := ⟨0xBD, [loByte addr, hiByte addr], rfl, rfl⟩
theorem ldxAby (addr : Word) : Statement (.ldxAby addr) := ⟨0xBE, [loByte addr, hiByte addr], rfl, rfl⟩
theorem laxAby (addr : Word) : Statement (.laxAby addr) := ⟨0xBF, [loByte addr, hiByte addr], rfl, rfl⟩
theorem cpyImm (n : Byte) : Statement (.cpyImm n) := ⟨0xC0, [n], rfl, rfl⟩
theorem cmpIzx (n : Byte) : Statement (.cmpIzx n) := ⟨0xC1, [n], rfl, rfl⟩
theorem nopImmC2 (n : Byte) : Statement (.nopImmC2 n) := ⟨0xC2, [n], rfl, rfl⟩
theorem dcpIzx (n : Byte) : Statement (.dcpIzx n) := ⟨0xC3, [n], rfl, rfl⟩
theorem cpyZp (n : Byte) : Statement (.cpyZp n) := ⟨0xC4, [n], rfl, rfl⟩
theorem cmpZp (n : Byte) : Statement (.cmpZp n) := ⟨0xC5, [n], rfl, rfl⟩
theorem decZp (n : Byte) : Statement (.decZp n) := ⟨0xC6, [n], rfl, rfl⟩
theorem dcpZp (n : Byte) : Statement (.dcpZp n) := ⟨0xC7, [n], rfl, rfl⟩
theorem iny : Statement (.iny) := ⟨0xC8, [], rfl, rfl⟩
theorem cmpImm (n : Byte) : Statement (.cmpImm n) := ⟨0xC9, [n], rfl, rfl⟩
theorem dex : Statement (.dex) := ⟨0xCA, [], rfl, rfl⟩
theorem sbxImm (n : Byte) : Statement (.sbxImm n) := ⟨0xCB, [n], rfl, rfl⟩
theorem cpyAbs (addr : Word) : Statement (.cpyAbs addr) := ⟨0xCC, [loByte addr, hiByte addr], rfl, rfl⟩
theorem cmpAbs (addr : Word) : Statement (.cmpAbs addr) := ⟨0xCD, [loByte addr, hiByte addr], rfl, rfl⟩
theorem decAbs (addr : Word) : Statement (.decAbs addr) := ⟨0xCE, [loByte addr, hiByte addr], rfl, rfl⟩
theorem dcpAbs (addr : Word) : Statement (.dcpAbs addr) := ⟨0xCF, [loByte addr, hiByte addr], rfl, rfl⟩
theorem bne (n : Byte) : Statement (.bne n) := ⟨0xD0, [n], rfl, rfl⟩
theorem cmpIzy (n : Byte) : Statement (.cmpIzy n) := ⟨0xD1, [n], rfl, rfl⟩
theorem jamD2 : Statement (.jamD2) := ⟨0xD2, [], rfl, rfl⟩
theorem dcpIzy (n : Byte) : Statement (.dcpIzy n) := ⟨0xD3, [n], rfl, rfl⟩
theorem nopZpxD4 (n : Byte) : Statement (.nopZpxD4 n) := ⟨0xD4, [n], rfl, rfl⟩
theorem cmpZpx (n : Byte) : Statement (.cmpZpx n) := ⟨0xD5, [n], rfl, rfl⟩
theorem decZpx (n : Byte) : Statement (.decZpx n) := ⟨0xD6, [n], rfl, rfl⟩
theorem dcpZpx (n : Byte) : Statement (.dcpZpx n) := ⟨0xD7, [n], rfl, rfl⟩
theorem cld : Statement (.cld) := ⟨0xD8, [], rfl, rfl⟩
theorem cmpAby (addr : Word) : Statement (.cmpAby addr) := ⟨0xD9, [loByte addr, hiByte addr], rfl, rfl⟩
theorem nopImpDA : Statement (.nopImpDA) := ⟨0xDA, [], rfl, rfl⟩
theorem dcpAby (addr : Word) : Statement (.dcpAby addr) := ⟨0xDB, [loByte addr, hiByte addr], rfl, rfl⟩
theorem nopAbxDC (addr : Word) : Statement (.nopAbxDC addr) := ⟨0xDC, [loByte addr, hiByte addr], rfl, rfl⟩
theorem cmpAbx (addr : Word) : Statement (.cmpAbx addr) := ⟨0xDD, [loByte addr, hiByte addr], rfl, rfl⟩
theorem decAbx (addr : Word) : Statement (.decAbx addr) := ⟨0xDE, [loByte addr, hiByte addr], rfl, rfl⟩
theorem dcpAbx (addr : Word) : Statement (.dcpAbx addr) := ⟨0xDF, [loByte addr, hiByte addr], rfl, rfl⟩
theorem cpxImm (n : Byte) : Statement (.cpxImm n) := ⟨0xE0, [n], rfl, rfl⟩
theorem sbcIzx (n : Byte) : Statement (.sbcIzx n) := ⟨0xE1, [n], rfl, rfl⟩
theorem nopImmE2 (n : Byte) : Statement (.nopImmE2 n) := ⟨0xE2, [n], rfl, rfl⟩
theorem iscIzx (n : Byte) : Statement (.iscIzx n) := ⟨0xE3, [n], rfl, rfl⟩
theorem cpxZp (n : Byte) : Statement (.cpxZp n) := ⟨0xE4, [n], rfl, rfl⟩
theorem sbcZp (n : Byte) : Statement (.sbcZp n) := ⟨0xE5, [n], rfl, rfl⟩
theorem incZp (n : Byte) : Statement (.incZp n) := ⟨0xE6, [n], rfl, rfl⟩
theorem iscZp (n : Byte) : Statement (.iscZp n) := ⟨0xE7, [n], rfl, rfl⟩
theorem inx : Statement (.inx) := ⟨0xE8, [], rfl, rfl⟩
theorem sbcImm (n : Byte) : Statement (.sbcImm n) := ⟨0xE9, [n], rfl, rfl⟩
theorem nop : Statement (.nop) := ⟨0xEA, [], rfl, rfl⟩
theorem usbcImm (n : Byte) : Statement (.usbcImm n) := ⟨0xEB, [n], rfl, rfl⟩
theorem cpxAbs (addr : Word) : Statement (.cpxAbs addr) := ⟨0xEC, [loByte addr, hiByte addr], rfl, rfl⟩
theorem sbcAbs (addr : Word) : Statement (.sbcAbs addr) := ⟨0xED, [loByte addr, hiByte addr], rfl, rfl⟩
theorem incAbs (addr : Word) : Statement (.incAbs addr) := ⟨0xEE, [loByte addr, hiByte addr], rfl, rfl⟩
theorem iscAbs (addr : Word) : Statement (.iscAbs addr) := ⟨0xEF, [loByte addr, hiByte addr], rfl, rfl⟩
theorem beq (n : Byte) : Statement (.beq n) := ⟨0xF0, [n], rfl, rfl⟩
theorem sbcIzy (n : Byte) : Statement (.sbcIzy n) := ⟨0xF1, [n], rfl, rfl⟩
theorem jamF2 : Statement (.jamF2) := ⟨0xF2, [], rfl, rfl⟩
theorem iscIzy (n : Byte) : Statement (.iscIzy n) := ⟨0xF3, [n], rfl, rfl⟩
theorem nopZpxF4 (n : Byte) : Statement (.nopZpxF4 n) := ⟨0xF4, [n], rfl, rfl⟩
theorem sbcZpx (n : Byte) : Statement (.sbcZpx n) := ⟨0xF5, [n], rfl, rfl⟩
theorem incZpx (n : Byte) : Statement (.incZpx n) := ⟨0xF6, [n], rfl, rfl⟩
theorem iscZpx (n : Byte) : Statement (.iscZpx n) := ⟨0xF7, [n], rfl, rfl⟩
theorem sed : Statement (.sed) := ⟨0xF8, [], rfl, rfl⟩
theorem sbcAby (addr : Word) : Statement (.sbcAby addr) := ⟨0xF9, [loByte addr, hiByte addr], rfl, rfl⟩
theorem nopImpFA : Statement (.nopImpFA) := ⟨0xFA, [], rfl, rfl⟩
theorem iscAby (addr : Word) : Statement (.iscAby addr) := ⟨0xFB, [loByte addr, hiByte addr], rfl, rfl⟩
theorem nopAbxFC (addr : Word) : Statement (.nopAbxFC addr) := ⟨0xFC, [loByte addr, hiByte addr], rfl, rfl⟩
theorem sbcAbx (addr : Word) : Statement (.sbcAbx addr) := ⟨0xFD, [loByte addr, hiByte addr], rfl, rfl⟩
theorem incAbx (addr : Word) : Statement (.incAbx addr) := ⟨0xFE, [loByte addr, hiByte addr], rfl, rfl⟩
theorem iscAbx (addr : Word) : Statement (.iscAbx addr) := ⟨0xFF, [loByte addr, hiByte addr], rfl, rfl⟩

end Sys2Proof.Laws.Encoding
end

