-- ==== Sys2Proof/Laws/Rows.lean ====
section
/-! SUPPORT. The opcode table read by instruction, so that a statement that asks for an instruction's row
computes in one step. -/

namespace Sys2Proof

/-- The mnemonic, mode, base cycles and extra-cycle class of an instruction's row. -/
def rowOf : Instr → String × ModeName × Nat × ExtraCycle
  | .brk => ("BRK", .imp, 7, .none)
  | .oraIzx _ => ("ORA", .izx, 6, .none)
  | .jam02 => ("JAM", .imp, 0, .none)
  | .sloIzx _ => ("SLO", .izx, 8, .none)
  | .nopZp04 _ => ("NOP", .zp, 3, .none)
  | .oraZp _ => ("ORA", .zp, 3, .none)
  | .aslZp _ => ("ASL", .zp, 5, .none)
  | .sloZp _ => ("SLO", .zp, 5, .none)
  | .php => ("PHP", .imp, 3, .none)
  | .oraImm _ => ("ORA", .imm, 2, .none)
  | .aslAcc => ("ASL", .acc, 2, .none)
  | .anc0B _ => ("ANC", .imm, 2, .none)
  | .nopAbs0C _ => ("NOP", .abs, 4, .none)
  | .oraAbs _ => ("ORA", .abs, 4, .none)
  | .aslAbs _ => ("ASL", .abs, 6, .none)
  | .sloAbs _ => ("SLO", .abs, 6, .none)
  | .bpl _ => ("BPL", .rel, 2, .branch)
  | .oraIzy _ => ("ORA", .izy, 5, .pageCross)
  | .jam12 => ("JAM", .imp, 0, .none)
  | .sloIzy _ => ("SLO", .izy, 8, .none)
  | .nopZpx14 _ => ("NOP", .zpx, 4, .none)
  | .oraZpx _ => ("ORA", .zpx, 4, .none)
  | .aslZpx _ => ("ASL", .zpx, 6, .none)
  | .sloZpx _ => ("SLO", .zpx, 6, .none)
  | .clc => ("CLC", .imp, 2, .none)
  | .oraAby _ => ("ORA", .aby, 4, .pageCross)
  | .nopImp1A => ("NOP", .imp, 2, .none)
  | .sloAby _ => ("SLO", .aby, 7, .none)
  | .nopAbx1C _ => ("NOP", .abx, 4, .pageCross)
  | .oraAbx _ => ("ORA", .abx, 4, .pageCross)
  | .aslAbx _ => ("ASL", .abx, 7, .none)
  | .sloAbx _ => ("SLO", .abx, 7, .none)
  | .jsrAbs _ => ("JSR", .abs, 6, .none)
  | .andIzx _ => ("AND", .izx, 6, .none)
  | .jam22 => ("JAM", .imp, 0, .none)
  | .rlaIzx _ => ("RLA", .izx, 8, .none)
  | .bitZp _ => ("BIT", .zp, 3, .none)
  | .andZp _ => ("AND", .zp, 3, .none)
  | .rolZp _ => ("ROL", .zp, 5, .none)
  | .rlaZp _ => ("RLA", .zp, 5, .none)
  | .plp => ("PLP", .imp, 4, .none)
  | .andImm _ => ("AND", .imm, 2, .none)
  | .rolAcc => ("ROL", .acc, 2, .none)
  | .anc2B _ => ("ANC", .imm, 2, .none)
  | .bitAbs _ => ("BIT", .abs, 4, .none)
  | .andAbs _ => ("AND", .abs, 4, .none)
  | .rolAbs _ => ("ROL", .abs, 6, .none)
  | .rlaAbs _ => ("RLA", .abs, 6, .none)
  | .bmi _ => ("BMI", .rel, 2, .branch)
  | .andIzy _ => ("AND", .izy, 5, .pageCross)
  | .jam32 => ("JAM", .imp, 0, .none)
  | .rlaIzy _ => ("RLA", .izy, 8, .none)
  | .nopZpx34 _ => ("NOP", .zpx, 4, .none)
  | .andZpx _ => ("AND", .zpx, 4, .none)
  | .rolZpx _ => ("ROL", .zpx, 6, .none)
  | .rlaZpx _ => ("RLA", .zpx, 6, .none)
  | .sec => ("SEC", .imp, 2, .none)
  | .andAby _ => ("AND", .aby, 4, .pageCross)
  | .nopImp3A => ("NOP", .imp, 2, .none)
  | .rlaAby _ => ("RLA", .aby, 7, .none)
  | .nopAbx3C _ => ("NOP", .abx, 4, .pageCross)
  | .andAbx _ => ("AND", .abx, 4, .pageCross)
  | .rolAbx _ => ("ROL", .abx, 7, .none)
  | .rlaAbx _ => ("RLA", .abx, 7, .none)
  | .rti => ("RTI", .imp, 6, .none)
  | .eorIzx _ => ("EOR", .izx, 6, .none)
  | .jam42 => ("JAM", .imp, 0, .none)
  | .sreIzx _ => ("SRE", .izx, 8, .none)
  | .nopZp44 _ => ("NOP", .zp, 3, .none)
  | .eorZp _ => ("EOR", .zp, 3, .none)
  | .lsrZp _ => ("LSR", .zp, 5, .none)
  | .sreZp _ => ("SRE", .zp, 5, .none)
  | .pha => ("PHA", .imp, 3, .none)
  | .eorImm _ => ("EOR", .imm, 2, .none)
  | .lsrAcc => ("LSR", .acc, 2, .none)
  | .alrImm _ => ("ALR", .imm, 2, .none)
  | .jmpAbs _ => ("JMP", .abs, 3, .none)
  | .eorAbs _ => ("EOR", .abs, 4, .none)
  | .lsrAbs _ => ("LSR", .abs, 6, .none)
  | .sreAbs _ => ("SRE", .abs, 6, .none)
  | .bvc _ => ("BVC", .rel, 2, .branch)
  | .eorIzy _ => ("EOR", .izy, 5, .pageCross)
  | .jam52 => ("JAM", .imp, 0, .none)
  | .sreIzy _ => ("SRE", .izy, 8, .none)
  | .nopZpx54 _ => ("NOP", .zpx, 4, .none)
  | .eorZpx _ => ("EOR", .zpx, 4, .none)
  | .lsrZpx _ => ("LSR", .zpx, 6, .none)
  | .sreZpx _ => ("SRE", .zpx, 6, .none)
  | .cli => ("CLI", .imp, 2, .none)
  | .eorAby _ => ("EOR", .aby, 4, .pageCross)
  | .nopImp5A => ("NOP", .imp, 2, .none)
  | .sreAby _ => ("SRE", .aby, 7, .none)
  | .nopAbx5C _ => ("NOP", .abx, 4, .pageCross)
  | .eorAbx _ => ("EOR", .abx, 4, .pageCross)
  | .lsrAbx _ => ("LSR", .abx, 7, .none)
  | .sreAbx _ => ("SRE", .abx, 7, .none)
  | .rts => ("RTS", .imp, 6, .none)
  | .adcIzx _ => ("ADC", .izx, 6, .none)
  | .jam62 => ("JAM", .imp, 0, .none)
  | .rraIzx _ => ("RRA", .izx, 8, .none)
  | .nopZp64 _ => ("NOP", .zp, 3, .none)
  | .adcZp _ => ("ADC", .zp, 3, .none)
  | .rorZp _ => ("ROR", .zp, 5, .none)
  | .rraZp _ => ("RRA", .zp, 5, .none)
  | .pla => ("PLA", .imp, 4, .none)
  | .adcImm _ => ("ADC", .imm, 2, .none)
  | .rorAcc => ("ROR", .acc, 2, .none)
  | .arrImm _ => ("ARR", .imm, 2, .none)
  | .jmpInd _ => ("JMP", .ind, 5, .none)
  | .adcAbs _ => ("ADC", .abs, 4, .none)
  | .rorAbs _ => ("ROR", .abs, 6, .none)
  | .rraAbs _ => ("RRA", .abs, 6, .none)
  | .bvs _ => ("BVS", .rel, 2, .branch)
  | .adcIzy _ => ("ADC", .izy, 5, .pageCross)
  | .jam72 => ("JAM", .imp, 0, .none)
  | .rraIzy _ => ("RRA", .izy, 8, .none)
  | .nopZpx74 _ => ("NOP", .zpx, 4, .none)
  | .adcZpx _ => ("ADC", .zpx, 4, .none)
  | .rorZpx _ => ("ROR", .zpx, 6, .none)
  | .rraZpx _ => ("RRA", .zpx, 6, .none)
  | .sei => ("SEI", .imp, 2, .none)
  | .adcAby _ => ("ADC", .aby, 4, .pageCross)
  | .nopImp7A => ("NOP", .imp, 2, .none)
  | .rraAby _ => ("RRA", .aby, 7, .none)
  | .nopAbx7C _ => ("NOP", .abx, 4, .pageCross)
  | .adcAbx _ => ("ADC", .abx, 4, .pageCross)
  | .rorAbx _ => ("ROR", .abx, 7, .none)
  | .rraAbx _ => ("RRA", .abx, 7, .none)
  | .nopImm80 _ => ("NOP", .imm, 2, .none)
  | .staIzx _ => ("STA", .izx, 6, .none)
  | .nopImm82 _ => ("NOP", .imm, 2, .none)
  | .saxIzx _ => ("SAX", .izx, 6, .none)
  | .styZp _ => ("STY", .zp, 3, .none)
  | .staZp _ => ("STA", .zp, 3, .none)
  | .stxZp _ => ("STX", .zp, 3, .none)
  | .saxZp _ => ("SAX", .zp, 3, .none)
  | .dey => ("DEY", .imp, 2, .none)
  | .nopImm89 _ => ("NOP", .imm, 2, .none)
  | .txa => ("TXA", .imp, 2, .none)
  | .aneImm _ => ("ANE", .imm, 2, .none)
  | .styAbs _ => ("STY", .abs, 4, .none)
  | .staAbs _ => ("STA", .abs, 4, .none)
  | .stxAbs _ => ("STX", .abs, 4, .none)
  | .saxAbs _ => ("SAX", .abs, 4, .none)
  | .bcc _ => ("BCC", .rel, 2, .branch)
  | .staIzy _ => ("STA", .izy, 6, .none)
  | .jam92 => ("JAM", .imp, 0, .none)
  | .shaIzy _ => ("SHA", .izy, 6, .none)
  | .styZpx _ => ("STY", .zpx, 4, .none)
  | .staZpx _ => ("STA", .zpx, 4, .none)
  | .stxZpy _ => ("STX", .zpy, 4, .none)
  | .saxZpy _ => ("SAX", .zpy, 4, .none)
  | .tya => ("TYA", .imp, 2, .none)
  | .staAby _ => ("STA", .aby, 5, .none)
  | .txs => ("TXS", .imp, 2, .none)
  | .tasAby _ => ("TAS", .aby, 5, .none)
  | .shyAbx _ => ("SHY", .abx, 5, .none)
  | .staAbx _ => ("STA", .abx, 5, .none)
  | .shxAby _ => ("SHX", .aby, 5, .none)
  | .shaAby _ => ("SHA", .aby, 5, .none)
  | .ldyImm _ => ("LDY", .imm, 2, .none)
  | .ldaIzx _ => ("LDA", .izx, 6, .none)
  | .ldxImm _ => ("LDX", .imm, 2, .none)
  | .laxIzx _ => ("LAX", .izx, 6, .none)
  | .ldyZp _ => ("LDY", .zp, 3, .none)
  | .ldaZp _ => ("LDA", .zp, 3, .none)
  | .ldxZp _ => ("LDX", .zp, 3, .none)
  | .laxZp _ => ("LAX", .zp, 3, .none)
  | .tay => ("TAY", .imp, 2, .none)
  | .ldaImm _ => ("LDA", .imm, 2, .none)
  | .tax => ("TAX", .imp, 2, .none)
  | .lxaImm _ => ("LXA", .imm, 2, .none)
  | .ldyAbs _ => ("LDY", .abs, 4, .none)
  | .ldaAbs _ => ("LDA", .abs, 4, .none)
  | .ldxAbs _ => ("LDX", .abs, 4, .none)
  | .laxAbs _ => ("LAX", .abs, 4, .none)
  | .bcs _ => ("BCS", .rel, 2, .branch)
  | .ldaIzy _ => ("LDA", .izy, 5, .pageCross)
  | .jamB2 => ("JAM", .imp, 0, .none)
  | .laxIzy _ => ("LAX", .izy, 5, .pageCross)
  | .ldyZpx _ => ("LDY", .zpx, 4, .none)
  | .ldaZpx _ => ("LDA", .zpx, 4, .none)
  | .ldxZpy _ => ("LDX", .zpy, 4, .none)
  | .laxZpy _ => ("LAX", .zpy, 4, .none)
  | .clv => ("CLV", .imp, 2, .none)
  | .ldaAby _ => ("LDA", .aby, 4, .pageCross)
  | .tsx => ("TSX", .imp, 2, .none)
  | .lasAby _ => ("LAS", .aby, 4, .pageCross)
  | .ldyAbx _ => ("LDY", .abx, 4, .pageCross)
  | .ldaAbx _ => ("LDA", .abx, 4, .pageCross)
  | .ldxAby _ => ("LDX", .aby, 4, .pageCross)
  | .laxAby _ => ("LAX", .aby, 4, .pageCross)
  | .cpyImm _ => ("CPY", .imm, 2, .none)
  | .cmpIzx _ => ("CMP", .izx, 6, .none)
  | .nopImmC2 _ => ("NOP", .imm, 2, .none)
  | .dcpIzx _ => ("DCP", .izx, 8, .none)
  | .cpyZp _ => ("CPY", .zp, 3, .none)
  | .cmpZp _ => ("CMP", .zp, 3, .none)
  | .decZp _ => ("DEC", .zp, 5, .none)
  | .dcpZp _ => ("DCP", .zp, 5, .none)
  | .iny => ("INY", .imp, 2, .none)
  | .cmpImm _ => ("CMP", .imm, 2, .none)
  | .dex => ("DEX", .imp, 2, .none)
  | .sbxImm _ => ("SBX", .imm, 2, .none)
  | .cpyAbs _ => ("CPY", .abs, 4, .none)
  | .cmpAbs _ => ("CMP", .abs, 4, .none)
  | .decAbs _ => ("DEC", .abs, 6, .none)
  | .dcpAbs _ => ("DCP", .abs, 6, .none)
  | .bne _ => ("BNE", .rel, 2, .branch)
  | .cmpIzy _ => ("CMP", .izy, 5, .pageCross)
  | .jamD2 => ("JAM", .imp, 0, .none)
  | .dcpIzy _ => ("DCP", .izy, 8, .none)
  | .nopZpxD4 _ => ("NOP", .zpx, 4, .none)
  | .cmpZpx _ => ("CMP", .zpx, 4, .none)
  | .decZpx _ => ("DEC", .zpx, 6, .none)
  | .dcpZpx _ => ("DCP", .zpx, 6, .none)
  | .cld => ("CLD", .imp, 2, .none)
  | .cmpAby _ => ("CMP", .aby, 4, .pageCross)
  | .nopImpDA => ("NOP", .imp, 2, .none)
  | .dcpAby _ => ("DCP", .aby, 7, .none)
  | .nopAbxDC _ => ("NOP", .abx, 4, .pageCross)
  | .cmpAbx _ => ("CMP", .abx, 4, .pageCross)
  | .decAbx _ => ("DEC", .abx, 7, .none)
  | .dcpAbx _ => ("DCP", .abx, 7, .none)
  | .cpxImm _ => ("CPX", .imm, 2, .none)
  | .sbcIzx _ => ("SBC", .izx, 6, .none)
  | .nopImmE2 _ => ("NOP", .imm, 2, .none)
  | .iscIzx _ => ("ISC", .izx, 8, .none)
  | .cpxZp _ => ("CPX", .zp, 3, .none)
  | .sbcZp _ => ("SBC", .zp, 3, .none)
  | .incZp _ => ("INC", .zp, 5, .none)
  | .iscZp _ => ("ISC", .zp, 5, .none)
  | .inx => ("INX", .imp, 2, .none)
  | .sbcImm _ => ("SBC", .imm, 2, .none)
  | .nop => ("NOP", .imp, 2, .none)
  | .usbcImm _ => ("SBC", .imm, 2, .none)
  | .cpxAbs _ => ("CPX", .abs, 4, .none)
  | .sbcAbs _ => ("SBC", .abs, 4, .none)
  | .incAbs _ => ("INC", .abs, 6, .none)
  | .iscAbs _ => ("ISC", .abs, 6, .none)
  | .beq _ => ("BEQ", .rel, 2, .branch)
  | .sbcIzy _ => ("SBC", .izy, 5, .pageCross)
  | .jamF2 => ("JAM", .imp, 0, .none)
  | .iscIzy _ => ("ISC", .izy, 8, .none)
  | .nopZpxF4 _ => ("NOP", .zpx, 4, .none)
  | .sbcZpx _ => ("SBC", .zpx, 4, .none)
  | .incZpx _ => ("INC", .zpx, 6, .none)
  | .iscZpx _ => ("ISC", .zpx, 6, .none)
  | .sed => ("SED", .imp, 2, .none)
  | .sbcAby _ => ("SBC", .aby, 4, .pageCross)
  | .nopImpFA => ("NOP", .imp, 2, .none)
  | .iscAby _ => ("ISC", .aby, 7, .none)
  | .nopAbxFC _ => ("NOP", .abx, 4, .pageCross)
  | .sbcAbx _ => ("SBC", .abx, 4, .pageCross)
  | .incAbx _ => ("INC", .abx, 7, .none)
  | .iscAbx _ => ("ISC", .abx, 7, .none)

/-- The opcode of an instruction. -/
def codeOf : Instr → Byte
  | .brk => 0x00
  | .oraIzx _ => 0x01
  | .jam02 => 0x02
  | .sloIzx _ => 0x03
  | .nopZp04 _ => 0x04
  | .oraZp _ => 0x05
  | .aslZp _ => 0x06
  | .sloZp _ => 0x07
  | .php => 0x08
  | .oraImm _ => 0x09
  | .aslAcc => 0x0A
  | .anc0B _ => 0x0B
  | .nopAbs0C _ => 0x0C
  | .oraAbs _ => 0x0D
  | .aslAbs _ => 0x0E
  | .sloAbs _ => 0x0F
  | .bpl _ => 0x10
  | .oraIzy _ => 0x11
  | .jam12 => 0x12
  | .sloIzy _ => 0x13
  | .nopZpx14 _ => 0x14
  | .oraZpx _ => 0x15
  | .aslZpx _ => 0x16
  | .sloZpx _ => 0x17
  | .clc => 0x18
  | .oraAby _ => 0x19
  | .nopImp1A => 0x1A
  | .sloAby _ => 0x1B
  | .nopAbx1C _ => 0x1C
  | .oraAbx _ => 0x1D
  | .aslAbx _ => 0x1E
  | .sloAbx _ => 0x1F
  | .jsrAbs _ => 0x20
  | .andIzx _ => 0x21
  | .jam22 => 0x22
  | .rlaIzx _ => 0x23
  | .bitZp _ => 0x24
  | .andZp _ => 0x25
  | .rolZp _ => 0x26
  | .rlaZp _ => 0x27
  | .plp => 0x28
  | .andImm _ => 0x29
  | .rolAcc => 0x2A
  | .anc2B _ => 0x2B
  | .bitAbs _ => 0x2C
  | .andAbs _ => 0x2D
  | .rolAbs _ => 0x2E
  | .rlaAbs _ => 0x2F
  | .bmi _ => 0x30
  | .andIzy _ => 0x31
  | .jam32 => 0x32
  | .rlaIzy _ => 0x33
  | .nopZpx34 _ => 0x34
  | .andZpx _ => 0x35
  | .rolZpx _ => 0x36
  | .rlaZpx _ => 0x37
  | .sec => 0x38
  | .andAby _ => 0x39
  | .nopImp3A => 0x3A
  | .rlaAby _ => 0x3B
  | .nopAbx3C _ => 0x3C
  | .andAbx _ => 0x3D
  | .rolAbx _ => 0x3E
  | .rlaAbx _ => 0x3F
  | .rti => 0x40
  | .eorIzx _ => 0x41
  | .jam42 => 0x42
  | .sreIzx _ => 0x43
  | .nopZp44 _ => 0x44
  | .eorZp _ => 0x45
  | .lsrZp _ => 0x46
  | .sreZp _ => 0x47
  | .pha => 0x48
  | .eorImm _ => 0x49
  | .lsrAcc => 0x4A
  | .alrImm _ => 0x4B
  | .jmpAbs _ => 0x4C
  | .eorAbs _ => 0x4D
  | .lsrAbs _ => 0x4E
  | .sreAbs _ => 0x4F
  | .bvc _ => 0x50
  | .eorIzy _ => 0x51
  | .jam52 => 0x52
  | .sreIzy _ => 0x53
  | .nopZpx54 _ => 0x54
  | .eorZpx _ => 0x55
  | .lsrZpx _ => 0x56
  | .sreZpx _ => 0x57
  | .cli => 0x58
  | .eorAby _ => 0x59
  | .nopImp5A => 0x5A
  | .sreAby _ => 0x5B
  | .nopAbx5C _ => 0x5C
  | .eorAbx _ => 0x5D
  | .lsrAbx _ => 0x5E
  | .sreAbx _ => 0x5F
  | .rts => 0x60
  | .adcIzx _ => 0x61
  | .jam62 => 0x62
  | .rraIzx _ => 0x63
  | .nopZp64 _ => 0x64
  | .adcZp _ => 0x65
  | .rorZp _ => 0x66
  | .rraZp _ => 0x67
  | .pla => 0x68
  | .adcImm _ => 0x69
  | .rorAcc => 0x6A
  | .arrImm _ => 0x6B
  | .jmpInd _ => 0x6C
  | .adcAbs _ => 0x6D
  | .rorAbs _ => 0x6E
  | .rraAbs _ => 0x6F
  | .bvs _ => 0x70
  | .adcIzy _ => 0x71
  | .jam72 => 0x72
  | .rraIzy _ => 0x73
  | .nopZpx74 _ => 0x74
  | .adcZpx _ => 0x75
  | .rorZpx _ => 0x76
  | .rraZpx _ => 0x77
  | .sei => 0x78
  | .adcAby _ => 0x79
  | .nopImp7A => 0x7A
  | .rraAby _ => 0x7B
  | .nopAbx7C _ => 0x7C
  | .adcAbx _ => 0x7D
  | .rorAbx _ => 0x7E
  | .rraAbx _ => 0x7F
  | .nopImm80 _ => 0x80
  | .staIzx _ => 0x81
  | .nopImm82 _ => 0x82
  | .saxIzx _ => 0x83
  | .styZp _ => 0x84
  | .staZp _ => 0x85
  | .stxZp _ => 0x86
  | .saxZp _ => 0x87
  | .dey => 0x88
  | .nopImm89 _ => 0x89
  | .txa => 0x8A
  | .aneImm _ => 0x8B
  | .styAbs _ => 0x8C
  | .staAbs _ => 0x8D
  | .stxAbs _ => 0x8E
  | .saxAbs _ => 0x8F
  | .bcc _ => 0x90
  | .staIzy _ => 0x91
  | .jam92 => 0x92
  | .shaIzy _ => 0x93
  | .styZpx _ => 0x94
  | .staZpx _ => 0x95
  | .stxZpy _ => 0x96
  | .saxZpy _ => 0x97
  | .tya => 0x98
  | .staAby _ => 0x99
  | .txs => 0x9A
  | .tasAby _ => 0x9B
  | .shyAbx _ => 0x9C
  | .staAbx _ => 0x9D
  | .shxAby _ => 0x9E
  | .shaAby _ => 0x9F
  | .ldyImm _ => 0xA0
  | .ldaIzx _ => 0xA1
  | .ldxImm _ => 0xA2
  | .laxIzx _ => 0xA3
  | .ldyZp _ => 0xA4
  | .ldaZp _ => 0xA5
  | .ldxZp _ => 0xA6
  | .laxZp _ => 0xA7
  | .tay => 0xA8
  | .ldaImm _ => 0xA9
  | .tax => 0xAA
  | .lxaImm _ => 0xAB
  | .ldyAbs _ => 0xAC
  | .ldaAbs _ => 0xAD
  | .ldxAbs _ => 0xAE
  | .laxAbs _ => 0xAF
  | .bcs _ => 0xB0
  | .ldaIzy _ => 0xB1
  | .jamB2 => 0xB2
  | .laxIzy _ => 0xB3
  | .ldyZpx _ => 0xB4
  | .ldaZpx _ => 0xB5
  | .ldxZpy _ => 0xB6
  | .laxZpy _ => 0xB7
  | .clv => 0xB8
  | .ldaAby _ => 0xB9
  | .tsx => 0xBA
  | .lasAby _ => 0xBB
  | .ldyAbx _ => 0xBC
  | .ldaAbx _ => 0xBD
  | .ldxAby _ => 0xBE
  | .laxAby _ => 0xBF
  | .cpyImm _ => 0xC0
  | .cmpIzx _ => 0xC1
  | .nopImmC2 _ => 0xC2
  | .dcpIzx _ => 0xC3
  | .cpyZp _ => 0xC4
  | .cmpZp _ => 0xC5
  | .decZp _ => 0xC6
  | .dcpZp _ => 0xC7
  | .iny => 0xC8
  | .cmpImm _ => 0xC9
  | .dex => 0xCA
  | .sbxImm _ => 0xCB
  | .cpyAbs _ => 0xCC
  | .cmpAbs _ => 0xCD
  | .decAbs _ => 0xCE
  | .dcpAbs _ => 0xCF
  | .bne _ => 0xD0
  | .cmpIzy _ => 0xD1
  | .jamD2 => 0xD2
  | .dcpIzy _ => 0xD3
  | .nopZpxD4 _ => 0xD4
  | .cmpZpx _ => 0xD5
  | .decZpx _ => 0xD6
  | .dcpZpx _ => 0xD7
  | .cld => 0xD8
  | .cmpAby _ => 0xD9
  | .nopImpDA => 0xDA
  | .dcpAby _ => 0xDB
  | .nopAbxDC _ => 0xDC
  | .cmpAbx _ => 0xDD
  | .decAbx _ => 0xDE
  | .dcpAbx _ => 0xDF
  | .cpxImm _ => 0xE0
  | .sbcIzx _ => 0xE1
  | .nopImmE2 _ => 0xE2
  | .iscIzx _ => 0xE3
  | .cpxZp _ => 0xE4
  | .sbcZp _ => 0xE5
  | .incZp _ => 0xE6
  | .iscZp _ => 0xE7
  | .inx => 0xE8
  | .sbcImm _ => 0xE9
  | .nop => 0xEA
  | .usbcImm _ => 0xEB
  | .cpxAbs _ => 0xEC
  | .sbcAbs _ => 0xED
  | .incAbs _ => 0xEE
  | .iscAbs _ => 0xEF
  | .beq _ => 0xF0
  | .sbcIzy _ => 0xF1
  | .jamF2 => 0xF2
  | .iscIzy _ => 0xF3
  | .nopZpxF4 _ => 0xF4
  | .sbcZpx _ => 0xF5
  | .incZpx _ => 0xF6
  | .iscZpx _ => 0xF7
  | .sed => 0xF8
  | .sbcAby _ => 0xF9
  | .nopImpFA => 0xFA
  | .iscAby _ => 0xFB
  | .nopAbxFC _ => 0xFC
  | .sbcAbx _ => 0xFD
  | .incAbx _ => 0xFE
  | .iscAbx _ => 0xFF

theorem opcodeOf_eq (i : Instr) : opcodeOf i = codeOf i := by cases i <;> rfl

/-- It is the row of the table at the instruction's opcode (30 R74). -/
theorem rowOf_eq (i : Instr) :
    ((opRow (opcodeOf i)).mnemonic, (opRow (opcodeOf i)).mode, (opRow (opcodeOf i)).base,
      (opRow (opcodeOf i)).extra) = rowOf i := by
  rw [opcodeOf_eq]
  cases i <;> simp only [codeOf, rowOf] <;> rfl

theorem mnemonic_eq (i : Instr) : (opRow (opcodeOf i)).mnemonic = (rowOf i).1 := by rw [← rowOf_eq]

theorem mode_eq (i : Instr) : (opRow (opcodeOf i)).mode = (rowOf i).2.1 := by rw [← rowOf_eq]

theorem base_eq (i : Instr) : (opRow (opcodeOf i)).base = (rowOf i).2.2.1 := by rw [← rowOf_eq]

theorem extra_eq (i : Instr) : (opRow (opcodeOf i)).extra = (rowOf i).2.2.2 := by rw [← rowOf_eq]

end Sys2Proof
end

