-- ==== Sys2Proof/Laws/Shapes.lean ====
section
/-! SUPPORT. Every meaning is one of twelve shapes. A statement about all instructions is proved once per
shape, and then once per instruction about the shape's own functions only. -/

namespace Sys2Proof.Machine

/-- The shapes of meaning (40 R103-R105, R92, R93; 44; 46). -/
inductive Shape where
  | read (m : Mode) (f : Byte → State → State)
  | store (m : Mode) (value : State → Byte)
  | rmw (m : Mode) (result : Byte → Bool → Byte) (post : Byte → Byte → State → State)
  | acc (result : Byte → Bool → Byte) (post : Byte → Byte → State → State)
  | implied (cost : Nat) (f : State → State)
  | unstable (mnemonic : String) (m : Mode) (pre : State → State) (reg : State → Byte)
  | branch (cond : State → Bool) (n : Byte)
  | jump (addr : Word)
  | jumpIndirect (addr : Word)
  | call (addr : Word)
  | brk
  | lock

/-- What a shape does. -/
@[simp] def Shape.run : Shape → State → Res State
  | .read m f, s => readInstr m f s
  | .store m value, s => storeInstr m value s
  | .rmw m result post, s => rmwInstr m result post s
  | .acc result post, s => accInstr result post s
  | .implied cost f, s => impliedInstr cost f s
  | .unstable mnemonic m pre reg, s => shInstr .standard mnemonic m pre reg s
  | .branch cond n, s => branchInstr (cond s) n s
  | .jump addr, s => jmpInstr addr s
  | .jumpIndirect addr, s => jmpIndInstr addr s
  | .call addr, s => jsrInstr addr s
  | .brk, s => brkInstr s
  | .lock, s => .fault (.lockup (lockUp s))

/-- The shape of each instruction. -/
def shapeOf : Instr → Shape
  | .brk => .brk
  | .oraIzx n => .read (.izx n) oraA
  | .jam02 => .lock
  | .sloIzx n => .rmw (.izx n) aslByte afterSlo
  | .nopZp04 n => .read (.zp n) discard
  | .oraZp n => .read (.zp n) oraA
  | .aslZp n => .rmw (.zp n) aslByte afterAsl
  | .sloZp n => .rmw (.zp n) aslByte afterSlo
  | .php => .implied 3 (fun t => push (pack true t) t)
  | .oraImm n => .read (.imm n) oraA
  | .aslAcc => .acc aslByte afterAsl
  | .anc0B n => .read (.imm n) anc
  | .nopAbs0C addr => .read (.abs addr) discard
  | .oraAbs addr => .read (.abs addr) oraA
  | .aslAbs addr => .rmw (.abs addr) aslByte afterAsl
  | .sloAbs addr => .rmw (.abs addr) aslByte afterSlo
  | .bpl n => .branch (fun s => !s.n) n
  | .oraIzy n => .read (.izy n) oraA
  | .jam12 => .lock
  | .sloIzy n => .rmw (.izy n) aslByte afterSlo
  | .nopZpx14 n => .read (.zpx n) discard
  | .oraZpx n => .read (.zpx n) oraA
  | .aslZpx n => .rmw (.zpx n) aslByte afterAsl
  | .sloZpx n => .rmw (.zpx n) aslByte afterSlo
  | .clc => .implied 2 (fun t => { t with c := false })
  | .oraAby addr => .read (.aby addr) oraA
  | .nopImp1A => .implied 2 (fun t => t)
  | .sloAby addr => .rmw (.aby addr) aslByte afterSlo
  | .nopAbx1C addr => .read (.abx addr) discard
  | .oraAbx addr => .read (.abx addr) oraA
  | .aslAbx addr => .rmw (.abx addr) aslByte afterAsl
  | .sloAbx addr => .rmw (.abx addr) aslByte afterSlo
  | .jsrAbs addr => .call addr
  | .andIzx n => .read (.izx n) andA
  | .jam22 => .lock
  | .rlaIzx n => .rmw (.izx n) rolByte afterRla
  | .bitZp n => .read (.zp n) bitTest
  | .andZp n => .read (.zp n) andA
  | .rolZp n => .rmw (.zp n) rolByte afterAsl
  | .rlaZp n => .rmw (.zp n) rolByte afterRla
  | .plp => .implied 4 (fun t => afterPull (unpack (pulled t) t))
  | .andImm n => .read (.imm n) andA
  | .rolAcc => .acc rolByte afterAsl
  | .anc2B n => .read (.imm n) anc
  | .bitAbs addr => .read (.abs addr) bitTest
  | .andAbs addr => .read (.abs addr) andA
  | .rolAbs addr => .rmw (.abs addr) rolByte afterAsl
  | .rlaAbs addr => .rmw (.abs addr) rolByte afterRla
  | .bmi n => .branch (fun s => s.n) n
  | .andIzy n => .read (.izy n) andA
  | .jam32 => .lock
  | .rlaIzy n => .rmw (.izy n) rolByte afterRla
  | .nopZpx34 n => .read (.zpx n) discard
  | .andZpx n => .read (.zpx n) andA
  | .rolZpx n => .rmw (.zpx n) rolByte afterAsl
  | .rlaZpx n => .rmw (.zpx n) rolByte afterRla
  | .sec => .implied 2 (fun t => { t with c := true })
  | .andAby addr => .read (.aby addr) andA
  | .nopImp3A => .implied 2 (fun t => t)
  | .rlaAby addr => .rmw (.aby addr) rolByte afterRla
  | .nopAbx3C addr => .read (.abx addr) discard
  | .andAbx addr => .read (.abx addr) andA
  | .rolAbx addr => .rmw (.abx addr) rolByte afterAsl
  | .rlaAbx addr => .rmw (.abx addr) rolByte afterRla
  | .rti => .implied 6 returnFromException
  | .eorIzx n => .read (.izx n) eorA
  | .jam42 => .lock
  | .sreIzx n => .rmw (.izx n) lsrByte afterSre
  | .nopZp44 n => .read (.zp n) discard
  | .eorZp n => .read (.zp n) eorA
  | .lsrZp n => .rmw (.zp n) lsrByte afterLsr
  | .sreZp n => .rmw (.zp n) lsrByte afterSre
  | .pha => .implied 3 (fun t => push t.a t)
  | .eorImm n => .read (.imm n) eorA
  | .lsrAcc => .acc lsrByte afterLsr
  | .alrImm n => .read (.imm n) alr
  | .jmpAbs addr => .jump addr
  | .eorAbs addr => .read (.abs addr) eorA
  | .lsrAbs addr => .rmw (.abs addr) lsrByte afterLsr
  | .sreAbs addr => .rmw (.abs addr) lsrByte afterSre
  | .bvc n => .branch (fun s => !s.v) n
  | .eorIzy n => .read (.izy n) eorA
  | .jam52 => .lock
  | .sreIzy n => .rmw (.izy n) lsrByte afterSre
  | .nopZpx54 n => .read (.zpx n) discard
  | .eorZpx n => .read (.zpx n) eorA
  | .lsrZpx n => .rmw (.zpx n) lsrByte afterLsr
  | .sreZpx n => .rmw (.zpx n) lsrByte afterSre
  | .cli => .implied 2 (fun t => { t with i := false })
  | .eorAby addr => .read (.aby addr) eorA
  | .nopImp5A => .implied 2 (fun t => t)
  | .sreAby addr => .rmw (.aby addr) lsrByte afterSre
  | .nopAbx5C addr => .read (.abx addr) discard
  | .eorAbx addr => .read (.abx addr) eorA
  | .lsrAbx addr => .rmw (.abx addr) lsrByte afterLsr
  | .sreAbx addr => .rmw (.abx addr) lsrByte afterSre
  | .rts => .implied 6 returnFromSubroutine
  | .adcIzx n => .read (.izx n) adc
  | .jam62 => .lock
  | .rraIzx n => .rmw (.izx n) rorByte afterRra
  | .nopZp64 n => .read (.zp n) discard
  | .adcZp n => .read (.zp n) adc
  | .rorZp n => .rmw (.zp n) rorByte afterLsr
  | .rraZp n => .rmw (.zp n) rorByte afterRra
  | .pla => .implied 4 pullA
  | .adcImm n => .read (.imm n) adc
  | .rorAcc => .acc rorByte afterLsr
  | .arrImm n => .read (.imm n) arr
  | .jmpInd addr => .jumpIndirect addr
  | .adcAbs addr => .read (.abs addr) adc
  | .rorAbs addr => .rmw (.abs addr) rorByte afterLsr
  | .rraAbs addr => .rmw (.abs addr) rorByte afterRra
  | .bvs n => .branch (fun s => s.v) n
  | .adcIzy n => .read (.izy n) adc
  | .jam72 => .lock
  | .rraIzy n => .rmw (.izy n) rorByte afterRra
  | .nopZpx74 n => .read (.zpx n) discard
  | .adcZpx n => .read (.zpx n) adc
  | .rorZpx n => .rmw (.zpx n) rorByte afterLsr
  | .rraZpx n => .rmw (.zpx n) rorByte afterRra
  | .sei => .implied 2 (fun t => { t with i := true })
  | .adcAby addr => .read (.aby addr) adc
  | .nopImp7A => .implied 2 (fun t => t)
  | .rraAby addr => .rmw (.aby addr) rorByte afterRra
  | .nopAbx7C addr => .read (.abx addr) discard
  | .adcAbx addr => .read (.abx addr) adc
  | .rorAbx addr => .rmw (.abx addr) rorByte afterLsr
  | .rraAbx addr => .rmw (.abx addr) rorByte afterRra
  | .nopImm80 n => .read (.imm n) discard
  | .staIzx n => .store (.izx n) (fun t => t.a)
  | .nopImm82 n => .read (.imm n) discard
  | .saxIzx n => .store (.izx n) (fun t => t.a &&& t.x)
  | .styZp n => .store (.zp n) (fun t => t.y)
  | .staZp n => .store (.zp n) (fun t => t.a)
  | .stxZp n => .store (.zp n) (fun t => t.x)
  | .saxZp n => .store (.zp n) (fun t => t.a &&& t.x)
  | .dey => .implied 2 (fun t => setNZ (t.y - 1) { t with y := t.y - 1 })
  | .nopImm89 n => .read (.imm n) discard
  | .txa => .implied 2 (fun t => setNZ t.x { t with a := t.x })
  | .aneImm n => .read (.imm n) (ane Config.aneByte)
  | .styAbs addr => .store (.abs addr) (fun t => t.y)
  | .staAbs addr => .store (.abs addr) (fun t => t.a)
  | .stxAbs addr => .store (.abs addr) (fun t => t.x)
  | .saxAbs addr => .store (.abs addr) (fun t => t.a &&& t.x)
  | .bcc n => .branch (fun s => !s.c) n
  | .staIzy n => .store (.izy n) (fun t => t.a)
  | .jam92 => .lock
  | .shaIzy n => .unstable "SHA" (.izy n) (fun t => t) (fun t => t.a &&& t.x)
  | .styZpx n => .store (.zpx n) (fun t => t.y)
  | .staZpx n => .store (.zpx n) (fun t => t.a)
  | .stxZpy n => .store (.zpy n) (fun t => t.x)
  | .saxZpy n => .store (.zpy n) (fun t => t.a &&& t.x)
  | .tya => .implied 2 (fun t => setNZ t.y { t with a := t.y })
  | .staAby addr => .store (.aby addr) (fun t => t.a)
  | .txs => .implied 2 (fun t => { t with sp := t.x })
  | .tasAby addr => .unstable "TAS" (.aby addr) (fun t => { t with sp := t.a &&& t.x }) (fun t => t.sp)
  | .shyAbx addr => .unstable "SHY" (.abx addr) (fun t => t) (fun t => t.y)
  | .staAbx addr => .store (.abx addr) (fun t => t.a)
  | .shxAby addr => .unstable "SHX" (.aby addr) (fun t => t) (fun t => t.x)
  | .shaAby addr => .unstable "SHA" (.aby addr) (fun t => t) (fun t => t.a &&& t.x)
  | .ldyImm n => .read (.imm n) loadY
  | .ldaIzx n => .read (.izx n) loadA
  | .ldxImm n => .read (.imm n) loadX
  | .laxIzx n => .read (.izx n) loadAX
  | .ldyZp n => .read (.zp n) loadY
  | .ldaZp n => .read (.zp n) loadA
  | .ldxZp n => .read (.zp n) loadX
  | .laxZp n => .read (.zp n) loadAX
  | .tay => .implied 2 (fun t => setNZ t.a { t with y := t.a })
  | .ldaImm n => .read (.imm n) loadA
  | .tax => .implied 2 (fun t => setNZ t.a { t with x := t.a })
  | .lxaImm n => .read (.imm n) (lxa Config.lxaByte)
  | .ldyAbs addr => .read (.abs addr) loadY
  | .ldaAbs addr => .read (.abs addr) loadA
  | .ldxAbs addr => .read (.abs addr) loadX
  | .laxAbs addr => .read (.abs addr) loadAX
  | .bcs n => .branch (fun s => s.c) n
  | .ldaIzy n => .read (.izy n) loadA
  | .jamB2 => .lock
  | .laxIzy n => .read (.izy n) loadAX
  | .ldyZpx n => .read (.zpx n) loadY
  | .ldaZpx n => .read (.zpx n) loadA
  | .ldxZpy n => .read (.zpy n) loadX
  | .laxZpy n => .read (.zpy n) loadAX
  | .clv => .implied 2 (fun t => { t with v := false })
  | .ldaAby addr => .read (.aby addr) loadA
  | .tsx => .implied 2 (fun t => setNZ t.sp { t with x := t.sp })
  | .lasAby addr => .read (.aby addr) las
  | .ldyAbx addr => .read (.abx addr) loadY
  | .ldaAbx addr => .read (.abx addr) loadA
  | .ldxAby addr => .read (.aby addr) loadX
  | .laxAby addr => .read (.aby addr) loadAX
  | .cpyImm n => .read (.imm n) cmpY
  | .cmpIzx n => .read (.izx n) cmpA
  | .nopImmC2 n => .read (.imm n) discard
  | .dcpIzx n => .rmw (.izx n) decByte afterDcp
  | .cpyZp n => .read (.zp n) cmpY
  | .cmpZp n => .read (.zp n) cmpA
  | .decZp n => .rmw (.zp n) decByte afterCount
  | .dcpZp n => .rmw (.zp n) decByte afterDcp
  | .iny => .implied 2 (fun t => setNZ (t.y + 1) { t with y := t.y + 1 })
  | .cmpImm n => .read (.imm n) cmpA
  | .dex => .implied 2 (fun t => setNZ (t.x - 1) { t with x := t.x - 1 })
  | .sbxImm n => .read (.imm n) sbx
  | .cpyAbs addr => .read (.abs addr) cmpY
  | .cmpAbs addr => .read (.abs addr) cmpA
  | .decAbs addr => .rmw (.abs addr) decByte afterCount
  | .dcpAbs addr => .rmw (.abs addr) decByte afterDcp
  | .bne n => .branch (fun s => !s.z) n
  | .cmpIzy n => .read (.izy n) cmpA
  | .jamD2 => .lock
  | .dcpIzy n => .rmw (.izy n) decByte afterDcp
  | .nopZpxD4 n => .read (.zpx n) discard
  | .cmpZpx n => .read (.zpx n) cmpA
  | .decZpx n => .rmw (.zpx n) decByte afterCount
  | .dcpZpx n => .rmw (.zpx n) decByte afterDcp
  | .cld => .implied 2 (fun t => { t with d := false })
  | .cmpAby addr => .read (.aby addr) cmpA
  | .nopImpDA => .implied 2 (fun t => t)
  | .dcpAby addr => .rmw (.aby addr) decByte afterDcp
  | .nopAbxDC addr => .read (.abx addr) discard
  | .cmpAbx addr => .read (.abx addr) cmpA
  | .decAbx addr => .rmw (.abx addr) decByte afterCount
  | .dcpAbx addr => .rmw (.abx addr) decByte afterDcp
  | .cpxImm n => .read (.imm n) cmpX
  | .sbcIzx n => .read (.izx n) sbc
  | .nopImmE2 n => .read (.imm n) discard
  | .iscIzx n => .rmw (.izx n) incByte afterIsc
  | .cpxZp n => .read (.zp n) cmpX
  | .sbcZp n => .read (.zp n) sbc
  | .incZp n => .rmw (.zp n) incByte afterCount
  | .iscZp n => .rmw (.zp n) incByte afterIsc
  | .inx => .implied 2 (fun t => setNZ (t.x + 1) { t with x := t.x + 1 })
  | .sbcImm n => .read (.imm n) sbc
  | .nop => .implied 2 (fun t => t)
  | .usbcImm n => .read (.imm n) sbc
  | .cpxAbs addr => .read (.abs addr) cmpX
  | .sbcAbs addr => .read (.abs addr) sbc
  | .incAbs addr => .rmw (.abs addr) incByte afterCount
  | .iscAbs addr => .rmw (.abs addr) incByte afterIsc
  | .beq n => .branch (fun s => s.z) n
  | .sbcIzy n => .read (.izy n) sbc
  | .jamF2 => .lock
  | .iscIzy n => .rmw (.izy n) incByte afterIsc
  | .nopZpxF4 n => .read (.zpx n) discard
  | .sbcZpx n => .read (.zpx n) sbc
  | .incZpx n => .rmw (.zpx n) incByte afterCount
  | .iscZpx n => .rmw (.zpx n) incByte afterIsc
  | .sed => .implied 2 (fun t => { t with d := true })
  | .sbcAby addr => .read (.aby addr) sbc
  | .nopImpFA => .implied 2 (fun t => t)
  | .iscAby addr => .rmw (.aby addr) incByte afterIsc
  | .nopAbxFC addr => .read (.abx addr) discard
  | .sbcAbx addr => .read (.abx addr) sbc
  | .incAbx addr => .rmw (.abx addr) incByte afterCount
  | .iscAbx addr => .rmw (.abx addr) incByte afterIsc

/-- Every instruction does what its shape does. -/
theorem exec_eq_run (i : Instr) (s : State) : exec i s = (shapeOf i).run s := by
  cases i <;> rfl

/-! ## The shapes that no lemma of Laws/Operands.lean covers -/

/-- An unstable store: if it goes on, its one write did (46 R225-R228). -/
theorem shInstr_eq_next {mnemonic : String} {m : Mode} {pre : State → State} {reg : State → Byte}
    {s t u : State} (hu : u = pre (advance (modeLength m) s)) :
    shInstr .standard mnemonic m pre reg s = .next t ↔
      writeFault (shAddr m (reg u &&& shHigh m u) u) (reg u &&& shHigh m u) u = none ∧
      t = charge (storeCost m) (afterWrite (writeCycle (storeCost m) u)
        (shAddr m (reg u &&& shHigh m u) u) (reg u &&& shHigh m u) u) := by
  subst hu
  simp only [shInstr, dummyRead_none, andThen_next, andThen_eq_next, memWrite_eq_next,
    Host.Outcome.next.injEq]
  constructor
  · rintro ⟨u, ⟨hw, rfl⟩, rfl⟩; exact ⟨hw, rfl⟩
  · rintro ⟨hw, rfl⟩; exact ⟨_, ⟨hw, rfl⟩, rfl⟩

/-- JMP indirect: if it goes on, both its pointer reads did (44 R180, 40 R99). -/
theorem jmpIndInstr_eq_next {addr other : Word} {s t : State}
    (ho : other = mkWord (hiByte addr) (loByte addr + 1)) :
    jmpIndInstr addr s = .next t ↔
      readFault addr s = none ∧ readFault other s = none ∧
      t = charge 5 { advance 3 (afterRead other (afterRead addr s)) with
        pc := mkWord (readByte other (afterRead addr s)) (readByte addr s) } := by
  subst ho
  simp only [jmpIndInstr, andThen_eq_next, memRead_eq_next, Host.Outcome.next.injEq,
    readFault_advance, readByte_advance, afterRead_advance]
  constructor
  · rintro ⟨_, ⟨h0, rfl⟩, _, ⟨h1, rfl⟩, rfl⟩
    exact ⟨h0, (readFault_afterRead _ _ _).symm.trans h1, by simp only [afterRead_advance]; rfl⟩
  · rintro ⟨h0, h1, rfl⟩
    exact ⟨_, ⟨h0, rfl⟩, _, ⟨(readFault_afterRead _ _ _).trans h1, rfl⟩,
      by simp only [afterRead_advance]; rfl⟩

/-- BRK: the state after the pushes, through $FFFE, or the vector's fault (44 R183). -/
theorem brkInstr_eq (s p : State)
    (hp : p = push (pack true s) (push16 (s.pc + 2) (advance 1 s))) :
    brkInstr s = match vectorFault irqVector s with
      | some e => .fault e
      | none => .next (charge 7 { p with i := true, pc := vectorWord irqVector p }) := by
  have hpc : s.pc + 1 + 1 = s.pc + 2 := by rw [BitVec.add_assoc]; rfl
  have hv : vectorFault irqVector (advance 1 s) = vectorFault irqVector s := rfl
  subst hp
  simp only [brkInstr, advance_pc, hpc, hv,
    takeException_eq (vec := irqVector) _ _ _ (by decide) (by decide)]
  cases vectorFault irqVector s <;> rfl

/-- An instruction answers `Lockup` exactly when it is a JAM, with this state (46 R234). -/
theorem exec_eq_lockup {i : Instr} {s t : State} :
    exec i s = .fault (.lockup t) ↔ shapeOf i = .lock ∧ t = lockUp s := by
  rw [exec_eq_run]
  cases h : shapeOf i <;> simp only [Shape.run, reduceCtorEq, false_and, iff_false, true_and]
  case read m f =>
    simp only [readInstr, dummyRead_none, andThen_next, andThen_eq_fault, reduceCtorEq, and_false,
      exists_false, or_false]
    cases m
    case imm => exact fun h => nomatch h
    all_goals exact memRead_ne_lockup _ _ t
  case store =>
    simp only [storeInstr, dummyRead_none, andThen_next, andThen_eq_fault, memWrite_ne_lockup, reduceCtorEq,
      and_false, exists_false, or_false, not_false_eq_true]
  case rmw =>
    simp only [rmwInstr, dummyRead_none, dummyWrite_none, andThen_next, andThen_eq_fault, memRead_ne_lockup,
      memWrite_ne_lockup, reduceCtorEq, and_false, exists_false, or_false, not_false_eq_true]
  case unstable =>
    simp only [shInstr, dummyRead_none, andThen_next, andThen_eq_fault, memWrite_ne_lockup, reduceCtorEq,
      and_false, exists_false, or_false, not_false_eq_true]
  case jumpIndirect =>
    simp only [jmpIndInstr, andThen_eq_fault, memRead_ne_lockup, reduceCtorEq, and_false, exists_false,
      or_false, not_false_eq_true]
  case brk =>
    rw [brkInstr_eq s _ rfl]
    split
    · rename_i e
      exact fun g => vectorFault_ne_lockup _ s t (e.trans (by simpa using g))
    · exact fun h => nomatch h
  case lock => simp [eq_comm]
  all_goals exact fun h => nomatch h

end Sys2Proof.Machine
end

