-- ==== Sys2Proof/Laws/Tick.lean ====
section
/-! SUPPORT. What a tick can do, said once, and what fetching leaves alone. -/

namespace Sys2Proof.Machine

/-- A tick that answers a next state is a stall tick, or a boundary tick: the poll, the fetch, and the
instruction that was fetched (60 R250-R252). -/
theorem step_eq_next {s t : State} :
    step s = .next t ↔ s.halted = false ∧
      ((0 < s.stall ∧ t = stallTick s) ∨
       (s.stall = 0 ∧ ∃ u i v, poll s = .next u ∧ fetchInstr u = .next (i, v) ∧ exec i v = .next t)) := by
  unfold step tick boundaryTick fetchExec
  cases s.halted
  · by_cases h : 0 < s.stall
    · have h' : s.stall ≠ 0 := by omega
      simp [h, h', eq_comm]
    · have h' : s.stall = 0 := by omega
      simp [h', andThen_eq_next]
  · simp

/-- A bus read touches nothing of the CPU. -/
theorem memRead_withCpu {addr : Word} {s : State} {p : Byte × State} (h : memRead addr s = .next p) :
    p.2 = withCpu s p.2 ∧ p.2.stall = s.stall ∧ p.2.mem = s.mem := by
  obtain ⟨_, rfl⟩ := memRead_eq_next.1 h
  exact ⟨afterRead_eq_withCpu s addr, by simp, by simp⟩

theorem withCpu_trans {s t u : State} (h : t = withCpu s t) (g : u = withCpu t u) : u = withCpu s u := by
  rw [g, h]; rfl

/-- Fetching moves nothing of the CPU, PC included: it may only have read device registers (40 R90). -/
theorem fetchInstr_withCpu {s : State} {p : Instr × State} (h : fetchInstr s = .next p) :
    p.2 = withCpu s p.2 ∧ p.2.stall = s.stall ∧ p.2.mem = s.mem := by
  obtain ⟨op, h0, h⟩ := andThen_eq_next.1 h
  obtain ⟨c0, s0, m0⟩ := memRead_withCpu h0
  split at h
  · cases h; exact ⟨c0, s0, m0⟩
  · obtain ⟨b1, h1, h⟩ := andThen_eq_next.1 h
    obtain ⟨c1, s1, m1⟩ := memRead_withCpu h1
    have c := withCpu_trans c0 c1
    split at h
    · cases h; exact ⟨c, s1.trans s0, m1.trans m0⟩
    · obtain ⟨b2, h2, h⟩ := andThen_eq_next.1 h
      obtain ⟨c2, s2, m2⟩ := memRead_withCpu h2
      cases h
      exact ⟨withCpu_trans c c2, s2.trans (s1.trans s0), m2.trans (m1.trans m0)⟩

/-- Entering an interrupt: this state, or the vector's fault (60 R259). -/
theorem enterInterrupt_eq {vec : Word} (s : State) (h : 0x4020 ≤ vec.toNat) (h' : vec.toNat < 0xFFFF) :
    enterInterrupt vec s = match vectorFault vec s with
      | some e => .fault e
      | none => .next { push (pack false s) (push16 s.pc s) with
          i := true
          pc := vectorWord vec (push (pack false s) (push16 s.pc s))
          stall := s.stall + Config.intEntryCycles } := by
  simp only [enterInterrupt, takeException_eq s.pc false s h h']
  cases vectorFault vec s <;> rfl

/-- Entering an interrupt ends the tick only in the fault of a vector read. -/
theorem enterInterrupt_eq_fault {vec : Word} {s : State} {e : Fault} (h : 0x4020 ≤ vec.toNat)
    (h' : vec.toNat < 0xFFFF) : enterInterrupt vec s = .fault e ↔ vectorFault vec s = some e := by
  rw [enterInterrupt_eq s h h']
  cases vectorFault vec s <;> simp

/-- No poll locks up, and no fetch. -/
theorem poll_ne_lockup (s t : State) : poll s ≠ .fault (.lockup t) := by
  unfold poll
  split
  · rw [ne_eq, enterInterrupt_eq_fault (by decide) (by decide)]; exact vectorFault_ne_lockup _ _ t
  · split
    · rw [ne_eq, enterInterrupt_eq_fault (by decide) (by decide)]; exact vectorFault_ne_lockup _ _ t
    · exact fun h => nomatch h

theorem fetchInstr_ne_lockup (s t : State) : fetchInstr s ≠ .fault (.lockup t) := by
  simp only [fetchInstr, ne_eq, andThen_eq_fault, memRead_ne_lockup, false_or, not_exists, not_and]
  intro p _
  split
  · exact fun h => nomatch h
  · simp only [andThen_eq_fault, memRead_ne_lockup, false_or, not_exists, not_and]
    intro q _
    split
    · exact fun h => nomatch h
    · simp only [andThen_eq_fault, memRead_ne_lockup, false_or, reduceCtorEq, and_false, exists_false,
        not_false_eq_true]

/-- The state a tick leaves, in its four cases: a halted machine's own, a stall tick's, that of the instruction
fetched after the poll, or that of a JAM fetched there (60 R250, R261). -/
theorem tickLeaves_iff {s t : State} :
    TickLeaves s t ↔ (s.halted = true ∧ t = s) ∨
      s.halted = false ∧
        ((0 < s.stall ∧ t = stallTick s) ∨
         (s.stall = 0 ∧ ∃ u i v, poll s = .next u ∧ fetchInstr u = .next (i, v) ∧
           (exec i v = .next t ∨ (shapeOf i = .lock ∧ t = lockUp v)))) := by
  unfold TickLeaves step tick boundaryTick fetchExec
  cases s.halted
  · by_cases h : 0 < s.stall
    · have h' : s.stall ≠ 0 := by omega
      simp [h, h', eq_comm]
    · have h' : s.stall = 0 := by omega
      simp only [h', lt_irrefl, if_false, Bool.false_eq_true, andThen_eq_next, andThen_eq_fault, poll_ne_lockup,
        fetchInstr_ne_lockup, exec_eq_lockup, false_or, false_and, true_and]
      constructor
      · rintro (⟨u, hp, ⟨i, v⟩, hf, h⟩ | ⟨u, hp, ⟨i, v⟩, hf, h⟩)
        · exact ⟨u, i, v, hp, hf, .inl h⟩
        · exact ⟨u, i, v, hp, hf, .inr h⟩
      · rintro ⟨u, i, v, hp, hf, h | h⟩
        · exact .inl ⟨u, hp, (i, v), hf, h⟩
        · exact .inr ⟨u, hp, (i, v), hf, h⟩
  · simp [eq_comm]

end Sys2Proof.Machine
end

