-- ==== Sys2Proof/Tests/Slice0.lean ====
section
/-! SUPPORT. Small tests. The instruction vectors are the rows of spec/95_test_vectors.md, so every expected
value comes from the spec. The witnesses show that the hypotheses of each statement can be met. -/

namespace Sys2Proof.Tests

open Sys2Proof.Machine Sys2Proof.Forms

-- One proof at a time: every `decide +kernel` waits for the kernel, and proofs that wait side by side each
-- take a thread with its own stack. The option ends with this namespace.
set_option Elab.async false

/-! ## Well-formedness and decoding -/

/-- A table word of no whole number of bytes is refused (30 R70: instructions are whole bytes). -/
theorem test_refuses_odd_width : wellFormedTableWord 12 0xA9 = false ∧ decodeTableWord 12 0xA9 = none := by
  decide

/-- A table word wider than the longest instruction is refused (30 R70). -/
theorem test_refuses_four_bytes : decodeTableWord 32 0xEA = none := by decide

/-- A table word with bits above its width is refused. -/
theorem test_refuses_wide_word : decodeTableWord 8 0x1EA = none := by decide

/-- 30 R74, row A column 9: 1010 1001 is LDA immediate; the operand is the second byte. -/
theorem test_decode_load : decodeTableWord 16 0b0111111110101001 = some (.ldaImm 0x7F) := by decide +kernel

/-- 30 R74, row 8 column D: 1000 1101 is STA absolute, low byte first. -/
theorem test_decode_store : decode [0b10001101, 0x34, 0x12] = .ok (.staAbs 0x1234, []) := by decide +kernel

/-- Row A column A is TAX, one byte. -/
theorem test_decode_transfer : decode [0b10101010, 0x01] = .ok (.tax, [0x01]) := by decide +kernel

/-- Row 7 column 1 is ADC (n),Y. -/
theorem test_decode_arith : decode [0b01110001, 0x40] = .ok (.adcIzy 0x40, []) := by decide +kernel

/-- Row 3 column 6 is ROL n,X; row 2 column A is ROL A. -/
theorem test_decode_shift :
    decode [0b00110110, 0x10] = .ok (.rolZpx 0x10, []) ∧ decode [0b00101010] = .ok (.rolAcc, []) := by
  decide +kernel

/-- Row 6 column C is JMP indirect; row 9 column 0 is BCC. -/
theorem test_decode_control :
    decode [0b01101100, 0xFF, 0x02] = .ok (.jmpInd 0x02FF, []) ∧
      decode [0b10010000, 0x80] = .ok (.bcc 0x80, []) := by
  decide +kernel

/-- Row 0 column 8 is PHP; row B column 8 is CLV; row E column A is NOP. -/
theorem test_decode_stack_flags_nop :
    decode [0b00001000] = .ok (.php, []) ∧ decode [0b10111000] = .ok (.clv, []) ∧
      decode [0b11101010] = .ok (.nop, []) := by decide +kernel

/-- Row 0 column 7 is SLO n; row E column B is SBC's duplicate; row 9 column E is SHX addr,Y. -/
theorem test_decode_unofficial :
    decode [0b00000111, 0x10] = .ok (.sloZp 0x10, []) ∧
      decode [0b11101011, 0x01] = .ok (.usbcImm 0x01, []) ∧
      decode [0b10011110, 0xF0, 0x12] = .ok (.shxAby 0x12F0, []) := by decide +kernel

/-- Row 1 column C is a NOP addr,X; row F column 2 is a JAM. -/
theorem test_decode_unofficial_nop_jam :
    decode [0b00011100, 0xF0, 0x02] = .ok (.nopAbx1C 0x02F0, []) ∧
      decode [0b11110010] = .ok (.jamF2, []) := by
  decide +kernel

/-- Bytes that end before the operand does are refused by name (30 R76). -/
theorem test_decode_truncated :
    decode [0xAD, 0x00] = .error (.truncated 0xAD) ∧ decode [] = .error .noBytes := by decide +kernel

/-! Every opcode, row by row of the opcode map (30 R74), with the operand bytes $34 $12 after it. -/

/-- What the sixteen opcodes of a row decode to. -/
def decodeRow (row : Nat) : List (Option Instr) :=
  (List.range 16).map fun column => decodeTableWord 24 (0x123400 + 16 * row + column)

theorem test_opcode_row_0 : decodeRow 0x0 =
    [.brk, .oraIzx 0x34, .jam02, .sloIzx 0x34, .nopZp04 0x34, .oraZp 0x34, .aslZp 0x34, .sloZp 0x34,
      .php, .oraImm 0x34, .aslAcc, .anc0B 0x34, .nopAbs0C 0x1234, .oraAbs 0x1234, .aslAbs 0x1234,
      .sloAbs 0x1234].map some := by
  decide +kernel

theorem test_opcode_row_1 : decodeRow 0x1 =
    [.bpl 0x34, .oraIzy 0x34, .jam12, .sloIzy 0x34, .nopZpx14 0x34, .oraZpx 0x34, .aslZpx 0x34,
      .sloZpx 0x34, .clc, .oraAby 0x1234, .nopImp1A, .sloAby 0x1234, .nopAbx1C 0x1234, .oraAbx 0x1234,
      .aslAbx 0x1234, .sloAbx 0x1234].map some := by
  decide +kernel

theorem test_opcode_row_2 : decodeRow 0x2 =
    [.jsrAbs 0x1234, .andIzx 0x34, .jam22, .rlaIzx 0x34, .bitZp 0x34, .andZp 0x34, .rolZp 0x34,
      .rlaZp 0x34, .plp, .andImm 0x34, .rolAcc, .anc2B 0x34, .bitAbs 0x1234, .andAbs 0x1234,
      .rolAbs 0x1234, .rlaAbs 0x1234].map some := by
  decide +kernel

theorem test_opcode_row_3 : decodeRow 0x3 =
    [.bmi 0x34, .andIzy 0x34, .jam32, .rlaIzy 0x34, .nopZpx34 0x34, .andZpx 0x34, .rolZpx 0x34,
      .rlaZpx 0x34, .sec, .andAby 0x1234, .nopImp3A, .rlaAby 0x1234, .nopAbx3C 0x1234, .andAbx 0x1234,
      .rolAbx 0x1234, .rlaAbx 0x1234].map some := by
  decide +kernel

theorem test_opcode_row_4 : decodeRow 0x4 =
    [.rti, .eorIzx 0x34, .jam42, .sreIzx 0x34, .nopZp44 0x34, .eorZp 0x34, .lsrZp 0x34, .sreZp 0x34,
      .pha, .eorImm 0x34, .lsrAcc, .alrImm 0x34, .jmpAbs 0x1234, .eorAbs 0x1234, .lsrAbs 0x1234,
      .sreAbs 0x1234].map some := by
  decide +kernel

theorem test_opcode_row_5 : decodeRow 0x5 =
    [.bvc 0x34, .eorIzy 0x34, .jam52, .sreIzy 0x34, .nopZpx54 0x34, .eorZpx 0x34, .lsrZpx 0x34,
      .sreZpx 0x34, .cli, .eorAby 0x1234, .nopImp5A, .sreAby 0x1234, .nopAbx5C 0x1234, .eorAbx 0x1234,
      .lsrAbx 0x1234, .sreAbx 0x1234].map some := by
  decide +kernel

theorem test_opcode_row_6 : decodeRow 0x6 =
    [.rts, .adcIzx 0x34, .jam62, .rraIzx 0x34, .nopZp64 0x34, .adcZp 0x34, .rorZp 0x34, .rraZp 0x34,
      .pla, .adcImm 0x34, .rorAcc, .arrImm 0x34, .jmpInd 0x1234, .adcAbs 0x1234, .rorAbs 0x1234,
      .rraAbs 0x1234].map some := by
  decide +kernel

theorem test_opcode_row_7 : decodeRow 0x7 =
    [.bvs 0x34, .adcIzy 0x34, .jam72, .rraIzy 0x34, .nopZpx74 0x34, .adcZpx 0x34, .rorZpx 0x34,
      .rraZpx 0x34, .sei, .adcAby 0x1234, .nopImp7A, .rraAby 0x1234, .nopAbx7C 0x1234, .adcAbx 0x1234,
      .rorAbx 0x1234, .rraAbx 0x1234].map some := by
  decide +kernel

theorem test_opcode_row_8 : decodeRow 0x8 =
    [.nopImm80 0x34, .staIzx 0x34, .nopImm82 0x34, .saxIzx 0x34, .styZp 0x34, .staZp 0x34, .stxZp 0x34,
      .saxZp 0x34, .dey, .nopImm89 0x34, .txa, .aneImm 0x34, .styAbs 0x1234, .staAbs 0x1234,
      .stxAbs 0x1234, .saxAbs 0x1234].map some := by
  decide +kernel

theorem test_opcode_row_9 : decodeRow 0x9 =
    [.bcc 0x34, .staIzy 0x34, .jam92, .shaIzy 0x34, .styZpx 0x34, .staZpx 0x34, .stxZpy 0x34,
      .saxZpy 0x34, .tya, .staAby 0x1234, .txs, .tasAby 0x1234, .shyAbx 0x1234, .staAbx 0x1234,
      .shxAby 0x1234, .shaAby 0x1234].map some := by
  decide +kernel

theorem test_opcode_row_A : decodeRow 0xA =
    [.ldyImm 0x34, .ldaIzx 0x34, .ldxImm 0x34, .laxIzx 0x34, .ldyZp 0x34, .ldaZp 0x34, .ldxZp 0x34,
      .laxZp 0x34, .tay, .ldaImm 0x34, .tax, .lxaImm 0x34, .ldyAbs 0x1234, .ldaAbs 0x1234,
      .ldxAbs 0x1234, .laxAbs 0x1234].map some := by
  decide +kernel

theorem test_opcode_row_B : decodeRow 0xB =
    [.bcs 0x34, .ldaIzy 0x34, .jamB2, .laxIzy 0x34, .ldyZpx 0x34, .ldaZpx 0x34, .ldxZpy 0x34,
      .laxZpy 0x34, .clv, .ldaAby 0x1234, .tsx, .lasAby 0x1234, .ldyAbx 0x1234, .ldaAbx 0x1234,
      .ldxAby 0x1234, .laxAby 0x1234].map some := by
  decide +kernel

theorem test_opcode_row_C : decodeRow 0xC =
    [.cpyImm 0x34, .cmpIzx 0x34, .nopImmC2 0x34, .dcpIzx 0x34, .cpyZp 0x34, .cmpZp 0x34, .decZp 0x34,
      .dcpZp 0x34, .iny, .cmpImm 0x34, .dex, .sbxImm 0x34, .cpyAbs 0x1234, .cmpAbs 0x1234,
      .decAbs 0x1234, .dcpAbs 0x1234].map some := by
  decide +kernel

theorem test_opcode_row_D : decodeRow 0xD =
    [.bne 0x34, .cmpIzy 0x34, .jamD2, .dcpIzy 0x34, .nopZpxD4 0x34, .cmpZpx 0x34, .decZpx 0x34,
      .dcpZpx 0x34, .cld, .cmpAby 0x1234, .nopImpDA, .dcpAby 0x1234, .nopAbxDC 0x1234, .cmpAbx 0x1234,
      .decAbx 0x1234, .dcpAbx 0x1234].map some := by
  decide +kernel

theorem test_opcode_row_E : decodeRow 0xE =
    [.cpxImm 0x34, .sbcIzx 0x34, .nopImmE2 0x34, .iscIzx 0x34, .cpxZp 0x34, .sbcZp 0x34, .incZp 0x34,
      .iscZp 0x34, .inx, .sbcImm 0x34, .nop, .usbcImm 0x34, .cpxAbs 0x1234, .sbcAbs 0x1234,
      .incAbs 0x1234, .iscAbs 0x1234].map some := by
  decide +kernel

theorem test_opcode_row_F : decodeRow 0xF =
    [.beq 0x34, .sbcIzy 0x34, .jamF2, .iscIzy 0x34, .nopZpxF4 0x34, .sbcZpx 0x34, .incZpx 0x34,
      .iscZpx 0x34, .sed, .sbcAby 0x1234, .nopImpFA, .iscAby 0x1234, .nopAbxFC 0x1234, .sbcAbx 0x1234,
      .incAbx 0x1234, .iscAbx 0x1234].map some := by
  decide +kernel

/-! ## The instruction vectors of spec 95 -/

/-- A state at `pc` with the given A, X, Y, P and S, code at `pc` and bytes in memory. -/
def start (pc : Word) (a x y p sp : Byte) (code : List Byte) (bytes : List (Word × Byte)) : State :=
  placeBytes pc code (bytes.foldl (fun s cell => placeByte cell.1 cell.2 s)
    (unpack p { State.reset with pc := pc, a := a, x := x, y := y, sp := sp }))

/-- What a vector observes: PC, A, X, Y, P, S, the cost of the instruction, and the bytes it wrote. -/
structure Seen where
  pc : Word
  a : Byte
  x : Byte
  y : Byte
  p : Byte
  sp : Byte
  cost : Nat
  wrote : List Byte
deriving DecidableEq, Repr

/-- One tick, observed; the bytes are read at `addrs`. -/
def after (s : State) (addrs : List Word) : Option Seen :=
  match step s with
  | .next t => some ⟨t.pc, t.a, t.x, t.y, pack false t, t.sp, t.stall + 1, addrs.map fun a => readByte a t⟩
  | .fault _ => none
  | .refused _ => none

/-- 95, row "R95 ZP". -/
theorem test_zp : after (start 0xC000 0x00 0x00 0x00 0x24 0xFD
    [0xA5, 0x10] [(0x0010, 0x42)]) [] =
    some ⟨0xC002, 0x42, 0x00, 0x00, 0x24, 0xFD, 3, []⟩ := by decide +kernel

/-- 95, row "R96 ZPX wrap". -/
theorem test_zpx_wrap : after (start 0xC000 0x00 0x1F 0x00 0x24 0xFD
    [0xB5, 0xF0] [(0x000F, 0x99), (0x010F, 0x11)]) [] =
    some ⟨0xC002, 0x99, 0x1F, 0x00, 0xA4, 0xFD, 4, []⟩ := by decide +kernel

/-- 95, row "R96 ZPY wrap". -/
theorem test_zpy_wrap : after (start 0xC000 0x00 0x00 0x02 0x24 0xFD
    [0xB6, 0xFF] [(0x0001, 0x77)]) [] =
    some ⟨0xC002, 0x00, 0x77, 0x02, 0x24, 0xFD, 4, []⟩ := by decide +kernel

/-- 95, row "R97 ABS". -/
theorem test_abs : after (start 0xC000 0x00 0x00 0x00 0x24 0xFD
    [0xAD, 0x34, 0x12] [(0x1234, 0x5A)]) [] =
    some ⟨0xC003, 0x5A, 0x00, 0x00, 0x24, 0xFD, 4, []⟩ := by decide +kernel

/-- 95, row "R98 ABX cross". -/
theorem test_abx_cross : after (start 0xC000 0x00 0x10 0x00 0x24 0xFD
    [0xBD, 0xF0, 0x02] [(0x0300, 0x02)]) [] =
    some ⟨0xC003, 0x02, 0x10, 0x00, 0x24, 0xFD, 5, []⟩ := by decide +kernel

/-- 95, row "R98 ABY cross". -/
theorem test_aby_cross : after (start 0xC000 0x00 0x00 0x01 0x24 0xFD
    [0xB9, 0xFF, 0x03] [(0x0400, 0x03)]) [] =
    some ⟨0xC003, 0x03, 0x00, 0x01, 0x24, 0xFD, 5, []⟩ := by decide +kernel

/-- 95, row "R98 ABX wrap past $FFFF". -/
theorem test_abx_wrap_past_ffff : after (start 0xC000 0x00 0x01 0x00 0x24 0xFD
    [0xBD, 0xFF, 0xFF] [(0x0000, 0x04)]) [] =
    some ⟨0xC003, 0x04, 0x01, 0x00, 0x24, 0xFD, 5, []⟩ := by decide +kernel

/-- 95, row "R100 IZX". -/
theorem test_izx : after (start 0xC000 0x00 0x04 0x00 0x24 0xFD
    [0xA1, 0x20] [(0x0024, 0x00), (0x0025, 0x03), (0x0300, 0x66)]) [] =
    some ⟨0xC002, 0x66, 0x04, 0x00, 0x24, 0xFD, 6, []⟩ := by decide +kernel

/-- 95, row "R100 IZX pointer wrap". -/
theorem test_izx_pointer_wrap : after (start 0xC000 0x00 0x00 0x00 0x24 0xFD
    [0xA1, 0xFF] [(0x00FF, 0x00), (0x0000, 0x04), (0x0400, 0x55), (0x0100, 0x07)]) [] =
    some ⟨0xC002, 0x55, 0x00, 0x00, 0x24, 0xFD, 6, []⟩ := by decide +kernel

/-- 95, row "R101 IZY cross". -/
theorem test_izy_cross : after (start 0xC000 0x00 0x00 0x01 0x24 0xFD
    [0xB1, 0x40] [(0x0040, 0xFF), (0x0041, 0x03), (0x0400, 0x6C)]) [] =
    some ⟨0xC002, 0x6C, 0x00, 0x01, 0x24, 0xFD, 6, []⟩ := by decide +kernel

/-- 95, row "R101 IZY pointer wrap". -/
theorem test_izy_pointer_wrap : after (start 0xC000 0x00 0x00 0x00 0x24 0xFD
    [0xB1, 0xFF] [(0x00FF, 0x00), (0x0000, 0x05), (0x0500, 0x6D)]) [] =
    some ⟨0xC002, 0x6D, 0x00, 0x00, 0x24, 0xFD, 5, []⟩ := by decide +kernel

/-- 95, row "R99 IND page bug". -/
theorem test_ind_page_bug : after (start 0xC000 0x00 0x00 0x00 0x24 0xFD
    [0x6C, 0xFF, 0x02] [(0x02FF, 0x00), (0x0200, 0x90), (0x0300, 0x80)]) [] =
    some ⟨0x9000, 0x00, 0x00, 0x00, 0x24, 0xFD, 5, []⟩ := by decide +kernel

/-- 95, row "R110 LDA #$00". -/
theorem test_lda_00 : after (start 0xC000 0x12 0x00 0x00 0x24 0xFD
    [0xA9, 0x00] []) [] =
    some ⟨0xC002, 0x00, 0x00, 0x00, 0x26, 0xFD, 2, []⟩ := by decide +kernel

/-- 95, row "R110 LDA #$80". -/
theorem test_lda_80 : after (start 0xC000 0x00 0x00 0x00 0x24 0xFD
    [0xA9, 0x80] []) [] =
    some ⟨0xC002, 0x80, 0x00, 0x00, 0xA4, 0xFD, 2, []⟩ := by decide +kernel

/-- 95, row "R111 LDX #$FF". -/
theorem test_ldx_ff : after (start 0xC000 0x00 0x00 0x00 0x24 0xFD
    [0xA2, 0xFF] []) [] =
    some ⟨0xC002, 0x00, 0xFF, 0x00, 0xA4, 0xFD, 2, []⟩ := by decide +kernel

/-- 95, row "R112 LDY #$01". -/
theorem test_ldy_01 : after (start 0xC000 0x00 0x00 0x00 0xA6 0xFD
    [0xA0, 0x01] []) [] =
    some ⟨0xC002, 0x00, 0x00, 0x01, 0x24, 0xFD, 2, []⟩ := by decide +kernel

/-- 95, row "R113 STA zp flags kept". -/
theorem test_sta_zp_flags_kept : after (start 0xC000 0x00 0x00 0x00 0xA5 0xFD
    [0x85, 0x10] []) [0x0010] =
    some ⟨0xC002, 0x00, 0x00, 0x00, 0xA5, 0xFD, 3, [0x00]⟩ := by decide +kernel

/-- 95, row "R114 STX zp,Y". -/
theorem test_stx_zp_y : after (start 0xC000 0x00 0x81 0x20 0x24 0xFD
    [0x96, 0xF0] []) [0x0010] =
    some ⟨0xC002, 0x00, 0x81, 0x20, 0x24, 0xFD, 4, [0x81]⟩ := by decide +kernel

/-- 95, row "R115 STY abs". -/
theorem test_sty_abs : after (start 0xC000 0x00 0x00 0x7E 0x24 0xFD
    [0x8C, 0x00, 0x06] []) [0x0600] =
    some ⟨0xC003, 0x00, 0x00, 0x7E, 0x24, 0xFD, 4, [0x7E]⟩ := by decide +kernel

/-- 95, row "R116 TAX". -/
theorem test_tax : after (start 0xC000 0x80 0x00 0x00 0x24 0xFD
    [0xAA] []) [] =
    some ⟨0xC001, 0x80, 0x80, 0x00, 0xA4, 0xFD, 2, []⟩ := by decide +kernel

/-- 95, row "R117 TAY". -/
theorem test_tay : after (start 0xC000 0x00 0x00 0x05 0x24 0xFD
    [0xA8] []) [] =
    some ⟨0xC001, 0x00, 0x00, 0x00, 0x26, 0xFD, 2, []⟩ := by decide +kernel

/-- 95, row "R118 TXA". -/
theorem test_txa : after (start 0xC000 0x00 0x7F 0x00 0x24 0xFD
    [0x8A] []) [] =
    some ⟨0xC001, 0x7F, 0x7F, 0x00, 0x24, 0xFD, 2, []⟩ := by decide +kernel

/-- 95, row "R119 TYA". -/
theorem test_tya : after (start 0xC000 0x01 0x00 0x00 0x24 0xFD
    [0x98] []) [] =
    some ⟨0xC001, 0x00, 0x00, 0x00, 0x26, 0xFD, 2, []⟩ := by decide +kernel

/-- 95, row "R120 TSX". -/
theorem test_tsx : after (start 0xC000 0x00 0x00 0x00 0x24 0xFD
    [0xBA] []) [] =
    some ⟨0xC001, 0x00, 0xFD, 0x00, 0xA4, 0xFD, 2, []⟩ := by decide +kernel

/-- 95, row "R121 TXS no flags". -/
theorem test_txs_no_flags : after (start 0xC000 0x00 0x00 0x00 0x24 0xFD
    [0x9A] []) [] =
    some ⟨0xC001, 0x00, 0x00, 0x00, 0x24, 0x00, 2, []⟩ := by decide +kernel

/-- 95, row "R131 ADC neg ovf". -/
theorem test_adc_neg_ovf : after (start 0xC000 0x80 0x00 0x00 0x24 0xFD
    [0x69, 0x80] []) [] =
    some ⟨0xC002, 0x00, 0x00, 0x00, 0x67, 0xFD, 2, []⟩ := by decide +kernel

/-- 95, row "R131 ADC D ignored". -/
theorem test_adc_d_ignored : after (start 0xC000 0x09 0x00 0x00 0x2C 0xFD
    [0x69, 0x09] []) [] =
    some ⟨0xC002, 0x12, 0x00, 0x00, 0x2C, 0xFD, 2, []⟩ := by decide +kernel

/-- 95, row "R132 SBC borrow in". -/
theorem test_sbc_borrow_in : after (start 0xC000 0x05 0x00 0x00 0x24 0xFD
    [0xE9, 0x01] []) [] =
    some ⟨0xC002, 0x03, 0x00, 0x00, 0x25, 0xFD, 2, []⟩ := by decide +kernel

/-- 95, row "R132 SBC ovf2". -/
theorem test_sbc_ovf2 : after (start 0xC000 0x7F 0x00 0x00 0x25 0xFD
    [0xE9, 0xFF] []) [] =
    some ⟨0xC002, 0x80, 0x00, 0x00, 0xE4, 0xFD, 2, []⟩ := by decide +kernel

/-- 95, row "R133 AND". -/
theorem test_and : after (start 0xC000 0xF0 0x00 0x00 0x24 0xFD
    [0x29, 0x0F] []) [] =
    some ⟨0xC002, 0x00, 0x00, 0x00, 0x26, 0xFD, 2, []⟩ := by decide +kernel

/-- 95, row "R134 ORA". -/
theorem test_ora : after (start 0xC000 0x01 0x00 0x00 0x24 0xFD
    [0x09, 0x80] []) [] =
    some ⟨0xC002, 0x81, 0x00, 0x00, 0xA4, 0xFD, 2, []⟩ := by decide +kernel

/-- 95, row "R135 EOR". -/
theorem test_eor : after (start 0xC000 0xFF 0x00 0x00 0x24 0xFD
    [0x49, 0xFF] []) [] =
    some ⟨0xC002, 0x00, 0x00, 0x00, 0x26, 0xFD, 2, []⟩ := by decide +kernel

/-- 95, row "R136 BIT". -/
theorem test_bit : after (start 0xC000 0x3F 0x00 0x00 0x24 0xFD
    [0x24, 0x10] [(0x0010, 0xC0)]) [] =
    some ⟨0xC002, 0x3F, 0x00, 0x00, 0xE6, 0xFD, 3, []⟩ := by decide +kernel

/-- 95, row "R136 BIT". -/
theorem test_bit_2 : after (start 0xC000 0x01 0x00 0x00 0x24 0xFD
    [0x2C, 0x00, 0x02] [(0x0200, 0x41)]) [] =
    some ⟨0xC003, 0x01, 0x00, 0x00, 0x64, 0xFD, 4, []⟩ := by decide +kernel

/-- 95, row "R138 CMP lt". -/
theorem test_cmp_lt : after (start 0xC000 0x40 0x00 0x00 0x24 0xFD
    [0xC9, 0x41] []) [] =
    some ⟨0xC002, 0x40, 0x00, 0x00, 0xA4, 0xFD, 2, []⟩ := by decide +kernel

/-- 95, row "R138 CMP V kept". -/
theorem test_cmp_v_kept : after (start 0xC000 0x80 0x00 0x00 0x64 0xFD
    [0xC9, 0x01] []) [] =
    some ⟨0xC002, 0x80, 0x00, 0x00, 0x65, 0xFD, 2, []⟩ := by decide +kernel

/-- 95, row "R139 CPX". -/
theorem test_cpx : after (start 0xC000 0x00 0x00 0x00 0x24 0xFD
    [0xE0, 0xFF] []) [] =
    some ⟨0xC002, 0x00, 0x00, 0x00, 0x24, 0xFD, 2, []⟩ := by decide +kernel

/-- 95, row "R140 CPY". -/
theorem test_cpy : after (start 0xC000 0x00 0x00 0x20 0x24 0xFD
    [0xC0, 0x10] []) [] =
    some ⟨0xC002, 0x00, 0x00, 0x20, 0x25, 0xFD, 2, []⟩ := by decide +kernel

/-- 95, row "R141 INC wrap". -/
theorem test_inc_wrap : after (start 0xC000 0x00 0x00 0x00 0x24 0xFD
    [0xE6, 0x10] [(0x0010, 0xFF)]) [0x0010] =
    some ⟨0xC002, 0x00, 0x00, 0x00, 0x26, 0xFD, 5, [0x00]⟩ := by decide +kernel

/-- 95, row "R142 DEC wrap". -/
theorem test_dec_wrap : after (start 0xC000 0x00 0x00 0x00 0x24 0xFD
    [0xCE, 0x00, 0x02] [(0x0200, 0x00)]) [0x0200] =
    some ⟨0xC003, 0x00, 0x00, 0x00, 0xA4, 0xFD, 6, [0xFF]⟩ := by decide +kernel

/-- 95, row "R143 INX wrap". -/
theorem test_inx_wrap : after (start 0xC000 0x00 0xFF 0x00 0x24 0xFD
    [0xE8] []) [] =
    some ⟨0xC001, 0x00, 0x00, 0x00, 0x26, 0xFD, 2, []⟩ := by decide +kernel

/-- 95, row "R144 INY". -/
theorem test_iny : after (start 0xC000 0x00 0x00 0x7F 0x24 0xFD
    [0xC8] []) [] =
    some ⟨0xC001, 0x00, 0x00, 0x80, 0xA4, 0xFD, 2, []⟩ := by decide +kernel

/-- 95, row "R145 DEX". -/
theorem test_dex : after (start 0xC000 0x00 0x01 0x00 0x24 0xFD
    [0xCA] []) [] =
    some ⟨0xC001, 0x00, 0x00, 0x00, 0x26, 0xFD, 2, []⟩ := by decide +kernel

/-- 95, row "R146 DEY wrap". -/
theorem test_dey_wrap : after (start 0xC000 0x00 0x00 0x00 0x24 0xFD
    [0x88] []) [] =
    some ⟨0xC001, 0x00, 0x00, 0xFF, 0xA4, 0xFD, 2, []⟩ := by decide +kernel

/-- 95, row "R160 ASL A". -/
theorem test_asl_a : after (start 0xC000 0x80 0x00 0x00 0x24 0xFD
    [0x0A] []) [] =
    some ⟨0xC001, 0x00, 0x00, 0x00, 0x27, 0xFD, 2, []⟩ := by decide +kernel

/-- 95, row "R160 ASL zp". -/
theorem test_asl_zp : after (start 0xC000 0x00 0x00 0x00 0x24 0xFD
    [0x06, 0x10] [(0x0010, 0x41)]) [0x0010] =
    some ⟨0xC002, 0x00, 0x00, 0x00, 0xA4, 0xFD, 5, [0x82]⟩ := by decide +kernel

/-- 95, row "R161 LSR A". -/
theorem test_lsr_a : after (start 0xC000 0x01 0x00 0x00 0x24 0xFD
    [0x4A] []) [] =
    some ⟨0xC001, 0x00, 0x00, 0x00, 0x27, 0xFD, 2, []⟩ := by decide +kernel

/-- 95, row "R161 LSR abs". -/
theorem test_lsr_abs : after (start 0xC000 0x00 0x00 0x00 0xA5 0xFD
    [0x4E, 0x00, 0x02] [(0x0200, 0x80)]) [0x0200] =
    some ⟨0xC003, 0x00, 0x00, 0x00, 0x24, 0xFD, 6, [0x40]⟩ := by decide +kernel

/-- 95, row "R162 ROL A C in". -/
theorem test_rol_a_c_in : after (start 0xC000 0x80 0x00 0x00 0x25 0xFD
    [0x2A] []) [] =
    some ⟨0xC001, 0x01, 0x00, 0x00, 0x25, 0xFD, 2, []⟩ := by decide +kernel

/-- 95, row "R162 ROL zp,X". -/
theorem test_rol_zp_x : after (start 0xC000 0x00 0x05 0x00 0x24 0xFD
    [0x36, 0x10] [(0x0015, 0x40)]) [0x0015] =
    some ⟨0xC002, 0x00, 0x05, 0x00, 0xA4, 0xFD, 6, [0x80]⟩ := by decide +kernel

/-- 95, row "R163 ROR A C in". -/
theorem test_ror_a_c_in : after (start 0xC000 0x01 0x00 0x00 0x25 0xFD
    [0x6A] []) [] =
    some ⟨0xC001, 0x80, 0x00, 0x00, 0xA5, 0xFD, 2, []⟩ := by decide +kernel

/-- 95, row "R163 ROR abs,X V kept". -/
theorem test_ror_abs_x_v_kept : after (start 0xC000 0x00 0x10 0x00 0x64 0xFD
    [0x7E, 0xF0, 0x02] [(0x0300, 0x02)]) [0x0300] =
    some ⟨0xC003, 0x00, 0x10, 0x00, 0x64, 0xFD, 7, [0x01]⟩ := by decide +kernel

/-- 95, row "R177 BNE not taken". -/
theorem test_bne_not_taken : after (start 0xC000 0x00 0x00 0x00 0x26 0xFD
    [0xD0, 0x10] []) [] =
    some ⟨0xC002, 0x00, 0x00, 0x00, 0x26, 0xFD, 2, []⟩ := by decide +kernel

/-- 95, row "R177 BNE taken". -/
theorem test_bne_taken : after (start 0xC000 0x00 0x00 0x00 0x24 0xFD
    [0xD0, 0x10] []) [] =
    some ⟨0xC012, 0x00, 0x00, 0x00, 0x24, 0xFD, 3, []⟩ := by decide +kernel

/-- 95, row "R178 BEQ back". -/
theorem test_beq_back : after (start 0xC000 0x00 0x00 0x00 0x26 0xFD
    [0xF0, 0xFC] []) [] =
    some ⟨0xBFFE, 0x00, 0x00, 0x00, 0x26, 0xFD, 4, []⟩ := by decide +kernel

/-- 95, row "R176 BCS cross". -/
theorem test_bcs_cross : after (start 0xC0F0 0x00 0x00 0x00 0x25 0xFD
    [0xB0, 0x7F] []) [] =
    some ⟨0xC171, 0x00, 0x00, 0x00, 0x25, 0xFD, 4, []⟩ := by decide +kernel

/-- 95, row "R175 BCC back cross". -/
theorem test_bcc_back_cross : after (start 0xC010 0x00 0x00 0x00 0x24 0xFD
    [0x90, 0x80] []) [] =
    some ⟨0xBF92, 0x00, 0x00, 0x00, 0x24, 0xFD, 4, []⟩ := by decide +kernel

/-- 95, row "R171 BPL". -/
theorem test_bpl : after (start 0xC000 0x00 0x00 0x00 0x24 0xFD
    [0x10, 0x02] []) [] =
    some ⟨0xC004, 0x00, 0x00, 0x00, 0x24, 0xFD, 3, []⟩ := by decide +kernel

/-- 95, row "R172 BMI nt". -/
theorem test_bmi_nt : after (start 0xC000 0x00 0x00 0x00 0x24 0xFD
    [0x30, 0x02] []) [] =
    some ⟨0xC002, 0x00, 0x00, 0x00, 0x24, 0xFD, 2, []⟩ := by decide +kernel

/-- 95, row "R173 BVC". -/
theorem test_bvc : after (start 0xC000 0x00 0x00 0x00 0x64 0xFD
    [0x50, 0x02] []) [] =
    some ⟨0xC002, 0x00, 0x00, 0x00, 0x64, 0xFD, 2, []⟩ := by decide +kernel

/-- 95, row "R174 BVS". -/
theorem test_bvs : after (start 0xC000 0x00 0x00 0x00 0x64 0xFD
    [0x70, 0x02] []) [] =
    some ⟨0xC004, 0x00, 0x00, 0x00, 0x64, 0xFD, 3, []⟩ := by decide +kernel

/-- 95, row "R179 JMP abs". -/
theorem test_jmp_abs : after (start 0xC000 0x00 0x00 0x00 0x24 0xFD
    [0x4C, 0xF5, 0xC5] []) [] =
    some ⟨0xC5F5, 0x00, 0x00, 0x00, 0x24, 0xFD, 3, []⟩ := by decide +kernel

/-- 95, row "R180 JMP ind". -/
theorem test_jmp_ind : after (start 0xC000 0x00 0x00 0x00 0x24 0xFD
    [0x6C, 0x00, 0x02] [(0x0200, 0x34), (0x0201, 0x12)]) [] =
    some ⟨0x1234, 0x00, 0x00, 0x00, 0x24, 0xFD, 5, []⟩ := by decide +kernel

/-- 95, row "R181 JSR". -/
theorem test_jsr : after (start 0xC000 0x00 0x00 0x00 0x24 0xFD
    [0x20, 0x00, 0xD0] []) [0x01FD, 0x01FC] =
    some ⟨0xD000, 0x00, 0x00, 0x00, 0x24, 0xFB, 6, [0xC0, 0x02]⟩ := by decide +kernel

/-- 95, row "R182 RTS". -/
theorem test_rts : after (start 0xC000 0x00 0x00 0x00 0x24 0xFD
    [0x60] [(0x01FE, 0x02), (0x01FF, 0xC0)]) [] =
    some ⟨0xC003, 0x00, 0x00, 0x00, 0x24, 0xFF, 6, []⟩ := by decide +kernel

/-- 95, row "R183 BRK". -/
theorem test_brk : after (start 0xC000 0x00 0x00 0x00 0x20 0xFD
    [0x00, 0xEA] [(0xFFFE, 0x00), (0xFFFF, 0xE0)]) [0x01FD, 0x01FC, 0x01FB] =
    some ⟨0xE000, 0x00, 0x00, 0x00, 0x24, 0xFA, 7, [0xC0, 0x02, 0x30]⟩ := by decide +kernel

/-- 95, row "R184 RTI". -/
theorem test_rti : after (start 0xC000 0x00 0x00 0x00 0x24 0xFA
    [0x40] [(0x01FB, 0xFF), (0x01FC, 0x34), (0x01FD, 0x12)]) [] =
    some ⟨0x1234, 0x00, 0x00, 0x00, 0xEF, 0xFD, 6, []⟩ := by decide +kernel

/-- 95, row "R190 PHA". -/
theorem test_pha : after (start 0xC000 0x99 0x00 0x00 0x24 0xFD
    [0x48] []) [0x01FD] =
    some ⟨0xC001, 0x99, 0x00, 0x00, 0x24, 0xFC, 3, [0x99]⟩ := by decide +kernel

/-- 95, row "R191 PHP". -/
theorem test_php : after (start 0xC000 0x00 0x00 0x00 0x24 0xFD
    [0x08] []) [0x01FD] =
    some ⟨0xC001, 0x00, 0x00, 0x00, 0x24, 0xFC, 3, [0x34]⟩ := by decide +kernel

/-- 95, row "R191 PHP all". -/
theorem test_php_all : after (start 0xC000 0x00 0x00 0x00 0xCF 0xFD
    [0x08] []) [0x01FD] =
    some ⟨0xC001, 0x00, 0x00, 0x00, 0xEF, 0xFC, 3, [0xFF]⟩ := by decide +kernel

/-- 95, row "R192 PLA". -/
theorem test_pla : after (start 0xC000 0x55 0x00 0x00 0xA4 0xFD
    [0x68] [(0x01FE, 0x00)]) [] =
    some ⟨0xC001, 0x00, 0x00, 0x00, 0x26, 0xFE, 4, []⟩ := by decide +kernel

/-- 95, row "R193 PLP". -/
theorem test_plp : after (start 0xC000 0x00 0x00 0x00 0x24 0xFD
    [0x28] [(0x01FE, 0xFF)]) [] =
    some ⟨0xC001, 0x00, 0x00, 0x00, 0xEF, 0xFE, 4, []⟩ := by decide +kernel

/-- 95, row "R193 PLP". -/
theorem test_plp_2 : after (start 0xC000 0x00 0x00 0x00 0x24 0xFD
    [0x28] [(0x01FE, 0x00)]) [] =
    some ⟨0xC001, 0x00, 0x00, 0x00, 0x20, 0xFE, 4, []⟩ := by decide +kernel

/-- 95, row "R194 CLC". -/
theorem test_clc : after (start 0xC000 0x00 0x00 0x00 0x25 0xFD
    [0x18] []) [] =
    some ⟨0xC001, 0x00, 0x00, 0x00, 0x24, 0xFD, 2, []⟩ := by decide +kernel

/-- 95, row "R195 SEC". -/
theorem test_sec : after (start 0xC000 0x00 0x00 0x00 0x24 0xFD
    [0x38] []) [] =
    some ⟨0xC001, 0x00, 0x00, 0x00, 0x25, 0xFD, 2, []⟩ := by decide +kernel

/-- 95, row "R196 CLI". -/
theorem test_cli : after (start 0xC000 0x00 0x00 0x00 0x24 0xFD
    [0x58] []) [] =
    some ⟨0xC001, 0x00, 0x00, 0x00, 0x20, 0xFD, 2, []⟩ := by decide +kernel

/-- 95, row "R197 SEI". -/
theorem test_sei : after (start 0xC000 0x00 0x00 0x00 0x20 0xFD
    [0x78] []) [] =
    some ⟨0xC001, 0x00, 0x00, 0x00, 0x24, 0xFD, 2, []⟩ := by decide +kernel

/-- 95, row "R198 CLD". -/
theorem test_cld : after (start 0xC000 0x00 0x00 0x00 0x2C 0xFD
    [0xD8] []) [] =
    some ⟨0xC001, 0x00, 0x00, 0x00, 0x24, 0xFD, 2, []⟩ := by decide +kernel

/-- 95, row "R199 SED". -/
theorem test_sed : after (start 0xC000 0x00 0x00 0x00 0x24 0xFD
    [0xF8] []) [] =
    some ⟨0xC001, 0x00, 0x00, 0x00, 0x2C, 0xFD, 2, []⟩ := by decide +kernel

/-- 95, row "R200 CLV". -/
theorem test_clv : after (start 0xC000 0x00 0x00 0x00 0x64 0xFD
    [0xB8] []) [] =
    some ⟨0xC001, 0x00, 0x00, 0x00, 0x24, 0xFD, 2, []⟩ := by decide +kernel

/-- 95, row "R201 NOP". -/
theorem test_nop : after (start 0xC000 0x00 0x00 0x00 0x24 0xFD
    [0xEA] []) [] =
    some ⟨0xC001, 0x00, 0x00, 0x00, 0x24, 0xFD, 2, []⟩ := by decide +kernel

/-- 95, row "R211 SLO zp". -/
theorem test_slo_zp : after (start 0xC000 0x01 0x00 0x00 0x24 0xFD
    [0x07, 0x10] [(0x0010, 0x81)]) [0x0010] =
    some ⟨0xC002, 0x03, 0x00, 0x00, 0x25, 0xFD, 5, [0x02]⟩ := by decide +kernel

/-- 95, row "R212 RLA zp". -/
theorem test_rla_zp : after (start 0xC000 0xFF 0x00 0x00 0x25 0xFD
    [0x27, 0x10] [(0x0010, 0x80)]) [0x0010] =
    some ⟨0xC002, 0x01, 0x00, 0x00, 0x25, 0xFD, 5, [0x01]⟩ := by decide +kernel

/-- 95, row "R213 SRE zp". -/
theorem test_sre_zp : after (start 0xC000 0x01 0x00 0x00 0x24 0xFD
    [0x47, 0x10] [(0x0010, 0x03)]) [0x0010] =
    some ⟨0xC002, 0x00, 0x00, 0x00, 0x27, 0xFD, 5, [0x01]⟩ := by decide +kernel

/-- 95, row "R214 RRA zp". -/
theorem test_rra_zp : after (start 0xC000 0x10 0x00 0x00 0x24 0xFD
    [0x67, 0x10] [(0x0010, 0x03)]) [0x0010] =
    some ⟨0xC002, 0x12, 0x00, 0x00, 0x24, 0xFD, 5, [0x01]⟩ := by decide +kernel

/-- 95, row "R215 SAX zp". -/
theorem test_sax_zp : after (start 0xC000 0xF0 0x3C 0x00 0x24 0xFD
    [0x87, 0x10] []) [0x0010] =
    some ⟨0xC002, 0xF0, 0x3C, 0x00, 0x24, 0xFD, 3, [0x30]⟩ := by decide +kernel

/-- 95, row "R216 LAX zp". -/
theorem test_lax_zp : after (start 0xC000 0x00 0x00 0x00 0x24 0xFD
    [0xA7, 0x10] [(0x0010, 0x80)]) [] =
    some ⟨0xC002, 0x80, 0x80, 0x00, 0xA4, 0xFD, 3, []⟩ := by decide +kernel

/-- 95, row "R217 DCP zp". -/
theorem test_dcp_zp : after (start 0xC000 0x40 0x00 0x00 0x24 0xFD
    [0xC7, 0x10] [(0x0010, 0x41)]) [0x0010] =
    some ⟨0xC002, 0x40, 0x00, 0x00, 0x27, 0xFD, 5, [0x40]⟩ := by decide +kernel

/-- 95, row "R218 ISC zp". -/
theorem test_isc_zp : after (start 0xC000 0x10 0x00 0x00 0x25 0xFD
    [0xE7, 0x10] [(0x0010, 0x0F)]) [0x0010] =
    some ⟨0xC002, 0x00, 0x00, 0x00, 0x27, 0xFD, 5, [0x10]⟩ := by decide +kernel

/-- 95, row "R211 SLO (zp),Y". -/
theorem test_slo_zp_y : after (start 0xC000 0x01 0x00 0x01 0x24 0xFD
    [0x13, 0x40] [(0x0040, 0xFF), (0x0041, 0x03), (0x0400, 0x40)]) [0x0400] =
    some ⟨0xC002, 0x81, 0x00, 0x01, 0xA4, 0xFD, 8, [0x80]⟩ := by decide +kernel

/-- 95, row "R219 ANC". -/
theorem test_anc : after (start 0xC000 0xFF 0x00 0x00 0x24 0xFD
    [0x0B, 0x80] []) [] =
    some ⟨0xC002, 0x80, 0x00, 0x00, 0xA5, 0xFD, 2, []⟩ := by decide +kernel

/-- 95, row "R220 ALR". -/
theorem test_alr : after (start 0xC000 0xFF 0x00 0x00 0x24 0xFD
    [0x4B, 0x03] []) [] =
    some ⟨0xC002, 0x01, 0x00, 0x00, 0x25, 0xFD, 2, []⟩ := by decide +kernel

/-- 95, row "R221 ARR". -/
theorem test_arr : after (start 0xC000 0xC0 0x00 0x00 0x25 0xFD
    [0x6B, 0xFF] []) [] =
    some ⟨0xC002, 0xE0, 0x00, 0x00, 0xA5, 0xFD, 2, []⟩ := by decide +kernel

/-- 95, row "R221 ARR". -/
theorem test_arr_2 : after (start 0xC000 0x40 0x00 0x00 0x24 0xFD
    [0x6B, 0xFF] []) [] =
    some ⟨0xC002, 0x20, 0x00, 0x00, 0x64, 0xFD, 2, []⟩ := by decide +kernel

/-- 95, row "R224 SBX". -/
theorem test_sbx : after (start 0xC000 0xFF 0x0F 0x00 0x24 0xFD
    [0xCB, 0x01] []) [] =
    some ⟨0xC002, 0xFF, 0x0E, 0x00, 0x25, 0xFD, 2, []⟩ := by decide +kernel

/-- 95, row "R224 SBX borrow". -/
theorem test_sbx_borrow : after (start 0xC000 0xFF 0x0F 0x00 0x24 0xFD
    [0xCB, 0x10] []) [] =
    some ⟨0xC002, 0xFF, 0xFF, 0x00, 0xA4, 0xFD, 2, []⟩ := by decide +kernel

/-- 95, row "R225 SHA abs,Y". -/
theorem test_sha_abs_y : after (start 0xC000 0xFF 0xFF 0x10 0x24 0xFD
    [0x9F, 0x00, 0x02] []) [0x0210] =
    some ⟨0xC003, 0xFF, 0xFF, 0x10, 0x24, 0xFD, 5, [0x03]⟩ := by decide +kernel

/-- 95, row "R226 SHX cross". -/
theorem test_shx_cross : after (start 0xC000 0x00 0x0A 0x20 0x24 0xFD
    [0x9E, 0xF0, 0x12] []) [0x0210] =
    some ⟨0xC003, 0x00, 0x0A, 0x20, 0x24, 0xFD, 5, [0x02]⟩ := by decide +kernel

/-- 95, row "R227 SHY cross". -/
theorem test_shy_cross : after (start 0xC000 0x00 0x20 0x05 0x24 0xFD
    [0x9C, 0xF0, 0x02] []) [0x0110] =
    some ⟨0xC003, 0x00, 0x20, 0x05, 0x24, 0xFD, 5, [0x01]⟩ := by decide +kernel

/-- 95, row "R228 TAS". -/
theorem test_tas : after (start 0xC000 0xF3 0x3F 0x01 0x24 0xFD
    [0x9B, 0x00, 0x02] []) [0x0201] =
    some ⟨0xC003, 0xF3, 0x3F, 0x01, 0x24, 0x33, 5, [0x03]⟩ := by decide +kernel

/-- 95, row "R229 LAS". -/
theorem test_las : after (start 0xC000 0x00 0x00 0x01 0x24 0xFD
    [0xBB, 0x00, 0x02] [(0x0201, 0x0F)]) [] =
    some ⟨0xC003, 0x0D, 0x0D, 0x01, 0x24, 0x0D, 4, []⟩ := by decide +kernel

/-- 95, row "R230 USBC". -/
theorem test_usbc : after (start 0xC000 0x00 0x00 0x00 0x25 0xFD
    [0xEB, 0x01] []) [] =
    some ⟨0xC002, 0xFF, 0x00, 0x00, 0xA4, 0xFD, 2, []⟩ := by decide +kernel

/-- 95, row "R231 NOP impl". -/
theorem test_nop_impl : after (start 0xC000 0x00 0x00 0x00 0x24 0xFD
    [0x1A] []) [] =
    some ⟨0xC001, 0x00, 0x00, 0x00, 0x24, 0xFD, 2, []⟩ := by decide +kernel

/-- 95, row "R232 NOP imm". -/
theorem test_nop_imm : after (start 0xC000 0x00 0x00 0x00 0x24 0xFD
    [0x80, 0xFF] []) [] =
    some ⟨0xC002, 0x00, 0x00, 0x00, 0x24, 0xFD, 2, []⟩ := by decide +kernel

/-- 95, row "R233 NOP abs,X cross". -/
theorem test_nop_abs_x_cross : after (start 0xC000 0x00 0x10 0x00 0x24 0xFD
    [0x1C, 0xF0, 0x02] []) [] =
    some ⟨0xC003, 0x00, 0x10, 0x00, 0x24, 0xFD, 5, []⟩ := by decide +kernel

/-- The state (or value) an operation goes on with. -/
def nextOf {α : Type} (r : Res α) : Option α :=
  match r with
  | .next x => some x
  | .fault _ => none
  | .refused _ => none

/-- The fault an operation stops with. -/
def faultOf {α : Type} (r : Res α) : Option Fault :=
  match r with
  | .next _ => none
  | .fault e => some e
  | .refused _ => none

/-- The refusal an operation stops with. -/
def refusalOf {α : Type} (r : Res α) : Option Refusal :=
  match r with
  | .next _ => none
  | .fault _ => none
  | .refused e => some e

/-- A state with a device fault on reads and on writes of $2000. -/
def faulty : State := { State.reset with devFaults := [⟨0x2000, false, 1⟩, ⟨0x2000, true, 2⟩] }

/-- A state whose $2000 can be read and not written. -/
def writeFaulty : State := { State.reset with devFaults := [⟨0x2000, true, 2⟩] }

/-! ## Ticks, interrupts, DMA and faults: 95 section 3 -/

/-- T1: a boundary tick of LDA absolute queues 3 stall cycles and counts one; a stall tick moves both. -/
theorem test_t1_stall :
    let s := start 0xC000 0 0 0 0x24 0xFD [0xAD, 0x00, 0x02, 0xEA] []
    (match step s with | .next t => (t.stall, t.cycles, t.pc) | _ => (0, 0, 0)) = (3, 8, 0xC003) ∧
    (match ticks 4 s with | .next t => (t.stall, t.cycles, t.pc) | _ => (0, 0, 0)) = (0, 11, 0xC003) := by
  decide +kernel

/-- The set-up of T4 and T5, on a 32 KiB image: the vectors and the handlers. -/
def interrupted (nmi irq : Bool) (cycles : Nat) (p : Byte) : State :=
  [(0xC001, 0xEA), (0xFFFA, 0x00), (0xFFFB, 0xD0), (0xFFFE, 0x00), (0xFFFF, 0xE0), (0xD000, 0xE6),
      (0xD001, 0x20), (0xE000, 0x48)].foldl (fun s (cell : Word × Byte) => placeByte cell.1 cell.2 s)
    (unpack p { State.reset with
      pc := 0xC001, a := 0x77, prgSize := 0x8000, nmiPending := nmi, irqLevel := irq, cycles := cycles })

/-- T4: the NMI pushes $C0, $01, $20, runs the handler's INC in the same tick, 11 stall cycles are left. -/
theorem test_t4_nmi : after (interrupted true false 12 0x20) [0x01FD, 0x01FC, 0x01FB, 0x0020] =
    some ⟨0xD002, 0x77, 0, 0, 0x24, 0xFA, 12, [0xC0, 0x01, 0x20, 0x01]⟩ := by decide +kernel

/-- T5: the IRQ pushes the same three bytes and runs the handler's PHA, at a cost of 7 + 3. -/
theorem test_t5_irq : after (interrupted false true 9 0x20) [0x01FD, 0x01FC, 0x01FB, 0x01FA] =
    some ⟨0xE001, 0x77, 0, 0, 0x24, 0xF9, 10, [0xC0, 0x01, 0x20, 0x77]⟩ := by decide +kernel

/-- T8: with I set the IRQ is not taken and the NOP at PC runs. -/
theorem test_t8_masked_irq : after (interrupted false true 9 0x24) [0x01FD] =
    some ⟨0xC002, 0x77, 0, 0, 0x24, 0xFD, 2, [0x00]⟩ := by decide +kernel

/-- STA $4014 at $C000 with the page in A (T6, T7). -/
def dmaStart (cycles : Nat) (page : Byte) : State :=
  { start 0xC000 page 0 0 0x24 0xFD [0x8D, 0x14, 0x40] [(0x0200, 0xAB), (0x02FF, 0xCD)] with
    cycles := cycles }

/-- T6: an even write cycle: the next boundary tick is at 9 + 4 + 513. The write and 256 bytes are seen in
order. -/
theorem test_t6_dma_even :
    (match step (dmaStart 9 0x02) with
      | .next t => (t.cycles + t.stall, t.devEvents.length, t.devEvents.take 3, t.devEvents.getLast?)
      | _ => (0, 0, [], none)) =
    (526, 257, [.write 0x4014 0x02, .oam 0xAB, .oam 0x00], some (.oam 0xCD)) := by decide +kernel

/-- T7: an odd write cycle: the next boundary tick is at 10 + 4 + 514. -/
theorem test_t7_dma_odd :
    (match step (dmaStart 10 0x02) with | .next t => t.cycles + t.stall | _ => 0) = 528 := by decide +kernel

/-- The state that a `Lockup` leaves. -/
def lockedUp {α : Type} (r : Res α) : Option State :=
  match r with
  | .next _ => none
  | .fault (.lockup t) => some t
  | .fault _ => none
  | .refused _ => none

/-- T9: the tick of a JAM is `Lockup`, with `halted` set and PC and `cycles` kept; every later tick is `Lockup` and
changes nothing, an NMI pending or not. -/
theorem test_t9_jam :
    let s := start 0xC000 0 0 0 0x24 0xFD [0x02] []
    lockedUp (step s) = some { s with halted := true } ∧
    lockedUp (step { s with halted := true, nmiPending := true }) =
      some { s with halted := true, nmiPending := true } := by decide +kernel

/-- 60 R261: an NMI whose handler begins with a JAM: the entry keeps its effects, and its 7 cycles are not queued. -/
theorem test_nmi_into_jam :
    (match lockedUp (step (placeByte 0xD000 0x02 (interrupted true false 12 0x20))) with
      | some t => (t.halted, t.pc, t.sp, t.i, t.nmiPending, t.stall, t.cycles)
      | none => (false, 0, 0, false, true, 1, 0)) = (true, 0xD000, 0xFA, true, false, 0, 12) := by decide +kernel

/-- A JAM opcode that another `JAM_SET` leaves out has no meaning (decision D2). -/
theorem test_jam_set : refusalOf (jamInstr [0x02, 0x12] 0x22 State.reset) = some (.openParameter "JAM") := by decide

/-- T10: a push at S = $00 writes $0100 and wraps S. -/
theorem test_t10_stack_wraps : after (start 0xC000 0x5A 0 0 0x24 0x00 [0x48] []) [0x0100] =
    some ⟨0xC001, 0x5A, 0, 0, 0x24, 0xFF, 3, [0x5A]⟩ := by decide +kernel

/-- T11: LDA $4018 ends the tick. -/
theorem test_t11_test_region :
    faultOf (step (start 0xC000 0 0 0 0x24 0xFD [0xAD, 0x18, 0x40] [])) = some .unmappedAccess := by decide +kernel

/-- T12: STA $5000 ends the tick under the NROM instance. -/
theorem test_t12_cartridge :
    faultOf (step (start 0xC000 0 0 0 0x24 0xFD [0x8D, 0x00, 0x50] [])) = some .unmappedCartridge := by
  decide +kernel

/-- T13: with its constant OPEN, ANE is refused. -/
theorem test_t13_ane_open :
    refusalOf (aneInstr none 0x00 State.reset) = some (.openParameter "ANE") ∧
    refusalOf (lxaInstr none 0x00 State.reset) = some (.openParameter "LXA") := by decide

/-- T14: BRK pushes $34, an IRQ entry $24. -/
theorem test_t14_bit_four : pack true State.reset = 0x34 ∧ pack false State.reset = 0x24 := by decide

/-- T15: a stall tick does not take the NMI. -/
theorem test_t15_stall_does_not_poll :
    nextOf (step { interrupted true false 9 0x20 with stall := 513 }) =
      some { interrupted true false 9 0x20 with stall := 512, cycles := 10 } := by decide +kernel

/-- R222's and R223's examples: the constant bound to $FF. -/
theorem test_ane_lxa_bound :
    (match aneInstr (some 0xFF) 0xFF { State.reset with a := 0x01, x := 0x0F } with
      | .next t => t.a | _ => 0) = 0x0F ∧
    (match lxaInstr (some 0xFF) 0x0F State.reset with | .next t => (t.a, t.x) | _ => (0, 0)) =
      (0x0F, 0x0F) := by decide

/-- 20 R53: a PPUDATA read, here through the mirror $3FFF, is the violation only while the PPU renders; the read
is recorded under $2007. -/
theorem test_ppudata :
    faultOf (memRead 0x3FFF { State.reset with ppuRendering := true }) = some .ppuDataDuringRendering ∧
    (afterRead 0x3FFF State.reset).devEvents = [.read 0x2007] ∧ readFault 0x3FFF State.reset = none := by
  decide

/-- The fault of a device responder is passed on unchanged (60 R262). -/
theorem test_device_fault :
    faultOf (memRead 0x2000 faulty) = some (.deviceFault 1) ∧
    faultOf (memWrite 0 0x2000 1 faulty) = some (.deviceFault 2) ∧
    nextOf (memWrite 0 0x2001 1 faulty) = some { faulty with devEvents := [.write 0x2001 1] } := by decide

/-! The alternatives of the parameters (00 R6), which the model does not take. -/

/-- 20 R50 `draw`, 20 R53 `permit`, 46 R225 `refuse`, 20 R55 with `DMA_ODD_EXTRA` false. -/
theorem test_other_policies :
    testRegionFault .draw = none ∧
    ppuDataViolation .permit 0x2007 { State.reset with ppuRendering := true } = false ∧
    refusalOf (shInstr .refuse "SHX" (.aby 0) id (fun s => s.x) State.reset) = some (.shPolicy "SHX") ∧
    dmaCycles false 12 = 514 ∧ dmaCycles false 13 = 513 := by decide

/-- 20 R58 `nmos`: the read of a page-crossing LDA $3FF8,X with X = $10 touches $3F08 first, and a
read-modify-write writes the old value back. -/
theorem test_dummy_accesses :
    (match dummyRead .nmos false (.abx 0x3FF8) { State.reset with x := 0x10 } with
      | .next t => t.devEvents | _ => []) = [.read 0x2000] ∧
    nextOf (dummyRead .nmos false (.abx 0x3FF0) { State.reset with x := 0x01 }) =
      some { State.reset with x := 0x01 } ∧
    nextOf (dummyWrite .nmos 0 0x2000 0x55 State.reset) =
      some { State.reset with devEvents := [.write 0x2000 0x55] } := by decide

/-! ## Reset, inputs, placing a program -/

/-- The vector of a 16 KiB image is its last bytes (20 R47, R67): after a power cycle PC is $8123. -/
theorem test_power_on_vector :
    (match powerOn { a := 1, x := 2, y := 3, ram := [0xEE], keepPrgRam := false, mapperState := 0 }
        (placeBytes 0xFFFC [0x23, 0x81] { State.reset with halted := true, cycles := 99 }) with
      | .next t => some (traceOf t, t.halted, t.mem.read 0)
      | _ => none) = some (⟨0x8123, 1, 2, 3, 0x24, 0xFD, 7⟩, false, 0xEE) := by
  decide +kernel

/-- Placing a table word makes the next step run it, from a state that would take an interrupt. -/
theorem test_with_fetch_word :
    (match step (State.withFetchWord
        { State.reset with i := false, irqLevel := true, stall := 9 } 16 0x7FA9) with
      | .next t => (t.a, t.pc, t.cycles) | _ => (0, 0, 0)) = (0x7F, 2, 8) := by decide +kernel

/-- An image of two bytes is mirrored through cartridge space (20 R47). -/
theorem test_load_image :
    let s := loadImage [0x11, 0x22] State.reset
    readByte 0x8000 s = 0x11 ∧ readByte 0xFFFF s = 0x22 ∧ s.wf = true := by decide

/-! ## Witnesses: the hypotheses of each statement can be met -/

/-- Whether an operation goes on. -/
def goesOn (r : Res State) : Bool :=
  match r with
  | .next _ => true
  | .fault _ => false
  | .refused _ => false

theorem next_of_goesOn {r : Res State} (h : goesOn r = true) : ∃ t, r = .next t := by
  cases r
  · exact ⟨_, rfl⟩
  all_goals cases h

theorem witness_PackAndUnpackStatus : (0xFF : Byte) &&& 0xCF = 0xCF &&& 0xCF := by decide

theorem witness_StackPushesAndPulls : State.reset.mem.wf = true ∧ 0x1FC ≠ 0x100 + State.reset.sp.toNat := by
  decide

/-- A NOP writes no register and no flag; so each clause has an instruction. -/
theorem witness_OnlyListedInstructionsWriteEachRegister :
    goesOn (exec .nop State.reset) = true ∧ writesA .nop = false ∧ writesX .nop = false ∧
    writesY .nop = false ∧ writesS .nop = false ∧ writesNZ .nop = false ∧ writesV .nop = false ∧
    writesD .nop = false ∧ writesI .nop = false ∧ writesC .nop = false := by
  decide +kernel

theorem witness_DecimalFlagHasNoEffect :
    ["PHP", "BRK", "PLP", "RTI", "SED", "CLD"].contains (mnemonicOf (.adcImm 9)) = false := by decide +kernel

/-- $0000 and $1800 select one byte, $0000 and $1FFF two. -/
theorem witness_RamMirrorsNameOneByte :
    State.reset.mem.wf = true ∧ (0x1800 : Word).toNat ≤ 0x1FFF ∧ (0x1FFF : Word).toNat ≤ 0x1FFF ∧
    (0x0000 : Word) &&& 0x07FF = 0x1800 &&& 0x07FF ∧ (0x0000 : Word) &&& 0x07FF ≠ 0x1FFF &&& 0x07FF := by
  decide

/-- The map at both ends of each region (20 R43), and the NROM instance's parts of the last (20 R47). -/
theorem witness_BusReadByRegion :
    [0x0000, 0x1FFF, 0x2000, 0x3FFF, 0x4000, 0x4017, 0x4018, 0x401F, 0x4020, 0xFFFF].map region =
    [.ram, .ram, .ppu, .ppu, .io, .io, .test, .test, .cart, .cart] ∧
    [0x4020, 0x5FFF, 0x6000, 0x7FFF, 0x8000, 0xBFFF, 0xC000, 0xFFFF].map (memKey State.reset) =
    [none, none, some 0x6000, some 0x7FFF, some 0x8000, some 0xBFFF, some 0x8000, some 0xBFFF] ∧
    (driveMapper 5 State.reset).mapper = .other 5 := by decide +kernel

theorem witness_BusWriteByRegion :
    (0x4013 : Word) ≠ 0x4014 ∧ (0x4015 : Word) ≠ 0x4014 ∧ devFault true 0x4013 State.reset = none ∧
    devFault true 0x2000 faulty = some (.deviceFault 2) := by decide

theorem witness_PpuDataDuringRenderingFaults :
    (0x2000 ≤ (0x2007 : Word).toNat ∧ (0x3FFF : Word).toNat ≤ 0x3FFF ∧ (0x2007 : Word).toNat % 8 = 7 ∧
      (0x3FFF : Word).toNat % 8 = 7 ∧ { State.reset with ppuRendering := true }.ppuRendering = true) ∧
    (∀ f ∈ faulty.devFaults, f.reg = 0x2002 → f.onWrite ≠ true) ∧ faulty.devFaults ≠ [] ∧
    faulty.ppuRendering = false := by decide

/-- The last page of RAM and the first page of PRG RAM; a page all of whose reads succeed; both ends of the PPU's
pages, with no fault on its registers. -/
theorem witness_OamDmaCopiesPage :
    devFault true 0x4014 State.reset = none ∧ (0x1F : Byte).toNat ≤ 0x1F ∧
    (State.reset.mapper = .nrom ∧ 0x60 ≤ (0x60 : Byte).toNat) ∧
    (0x41 ≤ (0x60 : Byte).toNat ∧ ∀ k, k < 256 → Readable (mkWord 0x60 (BitVec.ofNat 8 k)) State.reset) ∧
    0x20 ≤ (0x20 : Byte).toNat ∧ (0x3F : Byte).toNat ≤ 0x3F ∧
    (∀ k, k < 8 → devFault false (BitVec.ofNat 16 (0x2000 + k)) State.reset = none) := by
  decide +kernel

/-- Page $40 faults first at $4018; a $4014 that answers writes with a fault. -/
theorem witness_OamDmaFaultsWithItsFirstRead :
    devFault true 0x4014 State.reset = none ∧
    readFault (mkWord 0x40 (BitVec.ofNat 8 0x18)) State.reset = some .unmappedAccess ∧
    (∀ j, j < 0x18 → readFault (mkWord 0x40 (BitVec.ofNat 8 j)) State.reset = none) ∧
    devFault true 0x4014 { State.reset with devFaults := [⟨0x4014, true, 3⟩] } = some (.deviceFault 3) := by
  decide +kernel

/-- A tick goes on from the state after reset, and one locks up. They are the witnesses of every statement about the
state a tick leaves. -/
theorem witness_NoTickWritesRom :
    (∃ t, TickLeaves State.reset t) ∧ (∃ t, TickLeaves { State.reset with halted := true } t) ∧
    State.reset.mapper = .nrom := by
  obtain ⟨t, h⟩ := next_of_goesOn (r := step State.reset) (by decide +kernel)
  exact ⟨⟨t, .inl h⟩, ⟨_, .inr rfl⟩, rfl⟩

theorem witness_NoTickWritesAnInput :
    (∃ t, TickLeaves State.reset t) ∧ ∃ t, TickLeaves { State.reset with halted := true } t :=
  ⟨witness_NoTickWritesRom.1, witness_NoTickWritesRom.2.1⟩

theorem witness_TickKeepsWellFormed : State.reset.wf = true ∧ (∃ t, TickLeaves State.reset t) ∧
    { State.reset with halted := true }.wf = true ∧ ∃ t, TickLeaves { State.reset with halted := true } t :=
  ⟨by decide, witness_NoTickWritesRom.1, by decide, witness_NoTickWritesRom.2.1⟩

/-- A state where the SH stores, STA $10 and the rest go on. -/
theorem witness_StoresChangeOneByte :
    ⟨0x85, 3, false, .staZp 0x10, .zp 0x10⟩ ∈ storingForms 0x10 0x0200 ∧
    goesOn (exec (.staZp 0x10) State.reset) = true ∧
    ⟨0x9F, 5, false, .shaAby 0x0200, .aby 0x0200⟩ ∈ shaForms 0x10 0x0200 ∧
    goesOn (exec (.shaAby 0x0200) State.reset) = true ∧ goesOn (exec (.shxAby 0x0200) State.reset) = true ∧
    goesOn (exec (.shyAbx 0x0200) State.reset) = true ∧ goesOn (exec (.tasAby 0x0200) State.reset) = true ∧
    memKey State.reset (effAddr (.zp 0x10) State.reset) ≠ some 0x11 ∧
    memKey State.reset (shAddr (.aby 0x0200) (0 &&& 3) State.reset) ≠ some 0x11 := by decide +kernel

theorem witness_OtherInstructionsKeepMemory :
    storesAtAddr .nop = false ∧ pushes .nop = false ∧ goesOn (exec .nop State.reset) = true ∧
    storesAtAddr .pha = false ∧ goesOn (exec .pha State.reset) = true ∧
    storesAtAddr (.jsrAbs 0x0200) = false ∧ goesOn (exec (.jsrAbs 0x0200) State.reset) = true ∧
    storesAtAddr .brk = false ∧ goesOn (exec .brk State.reset) = true := by decide +kernel

theorem witness_DecodingAnEncodingGivesTheInstruction : (Instr.staAbs 0x1234).wellFormed = true := rfl

/-! For the rules over a list of forms: a form whose accesses succeed, and one whose access faults. -/

theorem witness_LoadsWriteTheirRegister :
    ⟨0xB1, 5, true, .ldaIzy 0x10, .izy 0x10⟩ ∈ ldaForms 0x10 0x4018 ∧
    ⟨0xAD, 4, false, .ldaAbs 0x4018, .abs 0x4018⟩ ∈ ldaForms 0x10 0x4018 ∧
    ⟨0xAE, 4, false, .ldxAbs 0x4018, .abs 0x4018⟩ ∈ ldxForms 0x10 0x4018 ∧
    ⟨0xAC, 4, false, .ldyAbs 0x4018, .abs 0x4018⟩ ∈ ldyForms 0x10 0x4018 ∧
    OperandReadable (.izy 0x10) State.reset ∧ OperandReadable (.abs 0x2002) State.reset ∧
    ¬ OperandReadable (.abs 0x4018) State.reset :=
  ⟨by decide, by decide, by decide, by decide, rfl, rfl, fun h => nomatch h⟩

theorem witness_AdcAddsExactly :
    ⟨0x6D, 4, false, .adcAbs 0x4018, .abs 0x4018⟩ ∈ adcForms 0x10 0x4018 ∧
    OperandReadable (.imm 0x10) State.reset ∧ ¬ OperandReadable (.abs 0x4018) State.reset :=
  ⟨by decide, trivial, fun h => nomatch h⟩

theorem witness_SbcSubtractsExactly :
    ⟨0xED, 4, false, .sbcAbs 0x4018, .abs 0x4018⟩ ∈ sbcForms 0x10 0x4018 ∧
    OperandReadable (.zp 0xFF) State.reset ∧ ¬ OperandReadable (.abs 0x4018) State.reset :=
  ⟨by decide, rfl, fun h => nomatch h⟩

theorem witness_LogicIntoAccumulator :
    ⟨0x2D, 4, false, .andAbs 0x401F, .abs 0x401F⟩ ∈ andForms 0x10 0x401F ∧
    ⟨0x0D, 4, false, .oraAbs 0x401F, .abs 0x401F⟩ ∈ oraForms 0x10 0x401F ∧
    ⟨0x4D, 4, false, .eorAbs 0x401F, .abs 0x401F⟩ ∈ eorForms 0x10 0x401F ∧
    OperandReadable (.abs 0x4017) State.reset ∧ ¬ OperandReadable (.abs 0x401F) State.reset :=
  ⟨by decide, by decide, by decide, rfl, fun h => nomatch h⟩

theorem witness_BitTestsMemory :
    ⟨0x2C, 4, false, .bitAbs 0x5FFF, .abs 0x5FFF⟩ ∈ bitForms 0x10 0x5FFF ∧
    OperandReadable (.abs 0x6000) State.reset ∧ ¬ OperandReadable (.abs 0x5FFF) State.reset :=
  ⟨by decide, rfl, fun h => nomatch h⟩

theorem witness_ComparesSetCarryZeroNegative :
    ⟨0xCD, 4, false, .cmpAbs 0x4020, .abs 0x4020⟩ ∈ cmpForms 0x10 0x4020 ∧
    ⟨0xEC, 4, false, .cpxAbs 0x4020, .abs 0x4020⟩ ∈ cpxForms 0x10 0x4020 ∧
    ⟨0xCC, 4, false, .cpyAbs 0x4020, .abs 0x4020⟩ ∈ cpyForms 0x10 0x4020 ∧
    OperandReadable (.abs 0x1FFF) State.reset ∧ ¬ OperandReadable (.abs 0x4020) State.reset :=
  ⟨by decide, by decide, by decide, rfl, fun h => nomatch h⟩

theorem witness_NopsOnlyAdvance :
    ⟨0x0C, 4, false, .nopAbs0C 0x4018, .abs 0x4018⟩ ∈ nopForms 0x10 0x4018 ∧
    OperandReadable (.abs 0x2002) State.reset ∧ ¬ OperandReadable (.abs 0x4018) State.reset :=
  ⟨by decide, rfl, fun h => nomatch h⟩

theorem witness_StoresWriteTheirRegister :
    ⟨0x8D, 4, false, .staAbs 0x4014, .abs 0x4014⟩ ∈ staForms 0x10 0x4014 ∧
    ⟨0x8E, 4, false, .stxAbs 0x4014, .abs 0x4014⟩ ∈ stxForms 0x10 0x4014 ∧
    ⟨0x8C, 4, false, .styAbs 0x4014, .abs 0x4014⟩ ∈ styForms 0x10 0x4014 ∧
    Writable 0x4014 0x00 State.reset ∧ Writable 0xFFFF 0x00 State.reset ∧
    writeFault 0x4014 0x40 State.reset = some .unmappedAccess := by decide +kernel

theorem witness_SaxLaxLas :
    ⟨0x8F, 4, false, .saxAbs 0x4018, .abs 0x4018⟩ ∈ saxForms 0x10 0x4018 ∧
    Writable 0x0010 0x00 State.reset ∧ writeFault 0x4018 0x00 State.reset = some .unmappedAccess ∧
    ⟨0xAF, 4, false, .laxAbs 0x4018, .abs 0x4018⟩ ∈ laxForms 0x10 0x4018 ∧
    ⟨0xBB, 4, true, .lasAby 0x4018, .aby 0x4018⟩ ∈ lasForms 0x10 0x4018 ∧
    readFault (effAddr (.aby 0x4018) State.reset) State.reset ≠ none ∧
    readFault (effAddr (.aby 0x4017) State.reset) State.reset = none := by decide +kernel

/-- For the read-modify-write rules: both accesses succeed; the read faults; the read succeeds and the write
faults. -/
theorem witness_readModifyWrite :
    Readable 0x0010 State.reset ∧ Writable 0x0010 0x80 (afterRead 0x0010 State.reset) ∧
    readFault 0x4018 State.reset = some .unmappedAccess ∧
    readFault 0x2000 writeFaulty = none ∧
    writeFault 0x2000 0x80 (afterRead 0x2000 writeFaulty) = some (.deviceFault 2) := by decide

theorem witness_IncAndDecOfMemory :
    ⟨0xEE, 6, false, .incAbs 0x2000, .abs 0x2000⟩ ∈ incForms 0x10 0x2000 ∧
    ⟨0xCE, 6, false, .decAbs 0x2000, .abs 0x2000⟩ ∈ decForms 0x10 0x2000 ∧
    readFault 0x2000 writeFaulty = none := by decide

theorem witness_ShiftsAndRotates :
    ⟨0x0E, 6, false, .aslAbs 0x2000, .abs 0x2000⟩ ∈ aslForms 0x10 0x2000 ∧
    ⟨0x4E, 6, false, .lsrAbs 0x2000, .abs 0x2000⟩ ∈ lsrForms 0x10 0x2000 ∧
    ⟨0x2E, 6, false, .rolAbs 0x2000, .abs 0x2000⟩ ∈ rolForms 0x10 0x2000 ∧
    ⟨0x6E, 6, false, .rorAbs 0x2000, .abs 0x2000⟩ ∈ rorForms 0x10 0x2000 ∧
    readFault 0x2000 writeFaulty = none := by decide

theorem witness_ShiftThenLogic :
    ⟨0x0F, 6, false, .sloAbs 0x2000, .abs 0x2000⟩ ∈ sloForms 0x10 0x2000 ∧
    ⟨0x2F, 6, false, .rlaAbs 0x2000, .abs 0x2000⟩ ∈ rlaForms 0x10 0x2000 ∧
    ⟨0x4F, 6, false, .sreAbs 0x2000, .abs 0x2000⟩ ∈ sreForms 0x10 0x2000 ∧
    readFault 0x2000 writeFaulty = none := by decide

theorem witness_CountOrRotateThenArithmetic :
    ⟨0x6F, 6, false, .rraAbs 0x2000, .abs 0x2000⟩ ∈ rraForms 0x10 0x2000 ∧
    ⟨0xCF, 6, false, .dcpAbs 0x2000, .abs 0x2000⟩ ∈ dcpForms 0x10 0x2000 ∧
    ⟨0xEF, 6, false, .iscAbs 0x2000, .abs 0x2000⟩ ∈ iscForms 0x10 0x2000 ∧
    readFault 0x2000 writeFaulty = none := by decide

/-- An unstable store that goes on with and without a page crossing, and one that faults. -/
theorem witness_UnstableStores :
    ⟨0x93, 6, false, .shaIzy 0x10, .izy 0x10⟩ ∈ shaForms 0x10 0x0200 ∧
    ⟨0x9E, 5, false, .shxAby 0x0200, .aby 0x0200⟩ ∈ shxForms 0x10 0x0200 ∧
    ⟨0x9C, 5, false, .shyAbx 0x0200, .abx 0x0200⟩ ∈ shyForms 0x10 0x0200 ∧
    ⟨0x9B, 5, false, .tasAby 0x0200, .aby 0x0200⟩ ∈ tasForms 0x10 0x0200 ∧
    Writable 0x0200 0x03 State.reset ∧ writeFault 0x4018 0x41 State.reset = some .unmappedAccess ∧
    hiByte (effAddr (.aby 0x02FF) { State.reset with y := 1 }) ≠ hiByte 0x02FF := by decide +kernel

/-- A branch not taken, taken in its page, and taken into another. -/
theorem witness_BranchesFollowTheirFlag :
    State.reset.n = false ∧ { State.reset with n := true }.n = true ∧ State.reset.v = false ∧
    { State.reset with v := true }.v = true ∧ State.reset.c = false ∧ { State.reset with c := true }.c = true ∧
    State.reset.z = false ∧ { State.reset with z := true }.z = true ∧
    hiByte (0xC002 : Word) = hiByte (0xC002 + (0x10 : Byte).signExtend 16) ∧
    hiByte (0xC002 : Word) ≠ hiByte (0xC002 + (0xFC : Byte).signExtend 16) := by decide

/-- A pointer at the end of its page; a pointer in device space; a pointer that faults. -/
theorem witness_JumpsGoToTheirTarget :
    memKey State.reset 0x02FF = some 0x2FF ∧
    (0x0200 : Word).toNat = (0x02FF : Word).toNat / 256 * 256 + ((0x02FF : Word).toNat + 1) % 256 ∧
    memKey State.reset 0x0200 = some 0x200 ∧
    Readable 0x2001 State.reset ∧ Readable (mkWord (hiByte 0x2001) (loByte 0x2001 + 1)) State.reset ∧
    readFault 0x4018 State.reset = some .unmappedAccess ∧
    (Readable 0x4017 State.reset ∧
      readFault (mkWord (hiByte 0x4017) (loByte 0x4017 + 1)) State.reset = some .unmappedAccess) := by decide

theorem witness_SubroutineCallAndReturn :
    State.reset.mem.wf = true ∧ ∃ t, exec (.jsrAbs 0x8000) State.reset = .next t :=
  ⟨by decide, next_of_goesOn (by decide +kernel)⟩

theorem witness_RtiUndoesBrk : State.reset.mem.wf = true ∧ ∃ t, exec .brk State.reset = .next t :=
  ⟨by decide, next_of_goesOn (by decide +kernel)⟩

/-- A responder made of the words 20 R47 and R52 quote of the serial shift register: a write to $8000-$FFFF shifts its
bit 0 in above, a write with bit 7 set resets it, five bits make the register full, and a read of $5000 is a
violation of its own. -/
def serialRegister : Config.CartResponder where
  read state addr := if addr = 0x5000 then .error 7 else .ok (BitVec.ofNat 8 state)
  write state _ b := .ok (if 128 ≤ b.toNat then 0 else (state * 2 + b.toNat % 2) % 32)

/-- 20 R47: a mapper block's `CartRead` and `CartWrite` answer cartridge space, its fault is passed on. -/
theorem test_other_mapper :
    let s := driveMapper 0b101 State.reset
    cartReadFault serialRegister 0x5000 s = some (.deviceFault 7) ∧
    cartReadFault serialRegister 0x8000 s = none ∧ cartByte serialRegister 0x8000 s = 0b101 ∧
    afterCartWrite serialRegister 0x8000 0x01 s = driveMapper 0b1011 State.reset ∧
    afterCartWrite serialRegister 0x8000 0x80 s = driveMapper 0 State.reset ∧
    memKey s 0x8000 = none := by decide +kernel

/-- The vector's reads succeed under NROM, or fault as a responder says: here one that faults on $FFFE. -/
theorem witness_BrkTakesItsException : (∃ p : State,
    p = push (pack true State.reset) (push (loByte (State.reset.pc + 2))
      (push (hiByte (State.reset.pc + 2)) State.reset)) ∧ vectorFault 0xFFFE p = none) ∧
    State.reset.mapper = .nrom ∧
    cartReadFault { serialRegister with read := fun _ _ => .error 1 } 0xFFFE (driveMapper 0 State.reset) =
      some (.deviceFault 1) := ⟨⟨_, rfl, rfl⟩, rfl, rfl⟩

theorem witness_RtiRestoresFlagsAndPc : ∃ p lo hi : Byte,
    p = State.reset.mem.read (0x100 + (State.reset.sp + 1).toNat) ∧
    lo = State.reset.mem.read (0x100 + (State.reset.sp + 2).toNat) ∧
    hi = State.reset.mem.read (0x100 + (State.reset.sp + 3).toNat) := ⟨_, _, _, rfl, rfl, rfl⟩

theorem witness_JamLocksUp : Instr.jamF2 ∈ [Instr.jam02, .jam12, .jam22, .jam32, .jam42, .jam52, .jam62, .jam72,
    .jam92, .jamB2, .jamD2, .jamF2] := by decide

theorem witness_StallTicksOnlyCount :
    { State.reset with stall := 1 }.halted = false ∧ 0 < { State.reset with stall := 1 }.stall := by decide

/-- Both cases: a halted machine, and a JAM at PC. -/
theorem witness_LockupExactlyOnJamOrHalted :
    { State.reset with halted := true }.halted = true ∧
    let s := start 0xC000 0 0 0 0x24 0xFD [0xF2] []
    s.halted = false ∧ s.stall = 0 ∧ nextOf (poll s) = some s ∧ nextOf (memRead s.pc s) = some (0xF2, s) := by
  decide +kernel

/-- The state after reset is a quiet boundary, with a BRK of the blank image at PC. -/
theorem witness_TickRunsTheDecodedInstruction :
    QuietBoundary State.reset ∧ StandsAt [0x00] State.reset.pc State.reset ∧
    decode [0x00] = .ok (.brk, []) ∧ Instr.brk.wellFormed = true :=
  ⟨⟨rfl, rfl, rfl, .inl rfl⟩, ⟨⟨0, by decide, rfl⟩, trivial⟩, by decide, rfl⟩

/-- A quiet boundary by the mask, one by the level; an opcode fetch that faults; code that runs out of $4017 into the
test region; one, two and three bytes in RAM. -/
theorem witness_QuietBoundaryFetchesAtPc :
    QuietBoundary { State.reset with irqLevel := true } ∧ QuietBoundary { State.reset with i := false } ∧
    QuietBoundary { State.reset with pc := 0x4018 } ∧
    faultOf (memRead 0x4018 State.reset) = some .unmappedAccess ∧ readFault 0x4017 State.reset = none ∧
    faultOf (memRead (0x4017 + 1) State.reset) = some .unmappedAccess ∧
    faultOf (memRead (0x4016 + 2) State.reset) = some .unmappedAccess ∧
    decode [0xEA] = .ok (.nop, []) ∧ (2 ≤ opLength 0xA9 ∧ decode [0xA9, 0x01] = .ok (.ldaImm 0x01, [])) ∧
    (opLength 0xAD = 3 ∧ decode [0xAD, 0x00, 0x02] = .ok (.ldaAbs 0x0200, [])) :=
  ⟨⟨rfl, rfl, rfl, .inl rfl⟩, ⟨rfl, rfl, rfl, .inr rfl⟩, ⟨rfl, rfl, rfl, .inl rfl⟩, by decide, by decide,
    by decide, by decide, by decide, by decide, by decide⟩

theorem witness_NmiIsTakenAtTheBoundary : ∃ s p : State, s.halted = false ∧ s.stall = 0 ∧
    s.nmiPending = true ∧ p = push (pack false s) (push (loByte s.pc) (push (hiByte s.pc) s)) ∧
    vectorFault 0xFFFA p = none ∧ s.mapper = .nrom :=
  ⟨latchNmi State.reset, _, rfl, rfl, rfl, rfl, rfl, rfl⟩

theorem witness_IrqIsTakenAtTheBoundary : ∃ s p : State, s.halted = false ∧ s.stall = 0 ∧
    s.nmiPending = false ∧ s.irqLevel = true ∧ s.i = false ∧
    p = push (pack false s) (push (loByte s.pc) (push (hiByte s.pc) s)) ∧ vectorFault 0xFFFE p = none ∧
    s.mapper = .nrom :=
  ⟨driveIrq true { State.reset with i := false }, _, rfl, rfl, rfl, rfl, rfl, rfl, rfl, rfl⟩

/-- A stall tick, a boundary tick that takes the NMI, and a halted machine. -/
theorem witness_NmiLatchClearedOnlyWhenTaken :
    (∃ t, TickLeaves (latchNmi { State.reset with stall := 1 }) t) ∧
    (∃ t, TickLeaves (latchNmi State.reset) t) ∧
    ∃ t, TickLeaves (latchNmi { State.reset with halted := true }) t := by
  obtain ⟨t, h⟩ := next_of_goesOn (r := step (latchNmi State.reset)) (by decide +kernel)
  exact ⟨⟨_, .inl rfl⟩, ⟨t, .inl h⟩, ⟨_, .inr rfl⟩⟩

theorem witness_StallQueuedIsTheTablesCost :
    ∃ t, exec (.staAbs 0x4014) State.reset = .next t := next_of_goesOn (by decide +kernel)

theorem witness_TicksCountCycles : (∃ t, ticks 8 State.reset = .next t) ∧
    ∃ t, step { State.reset with halted := true } = .fault (.lockup t) :=
  ⟨next_of_goesOn (by decide +kernel), _, rfl⟩

theorem witness_ResetSequence : State.reset.mem.wf = true ∧ 0x7FF < 0x800 ∧ 0x6000 ≤ 0x7FFF ∧
    0x8000 ≤ 0x8000 ∧ State.reset.mapper = .nrom ∧ (driveMapper 0 State.reset).mapper ≠ .nrom ∧
    vectorFault 0xFFFC State.reset = none := by decide

/-- 70 R290: PRG RAM through a power cycle, kept and not; another mapper comes up in the state given. -/
theorem test_power_on_keeps :
    let s := placeByte 0x6000 0x55 State.reset
    (rebuilt ⟨0, 0, 0, [], true, 0⟩ s).mem.read 0x6000 = 0x55 ∧
    (rebuilt ⟨0, 0, 0, [], false, 0⟩ s).mem.read 0x6000 = 0x00 ∧
    (rebuilt ⟨0, 0, 0, [], true, 9⟩ (driveMapper 4 s)).mapper = .other 9 ∧
    (rebuilt ⟨0, 0, 0, [], true, 9⟩ s).mapper = .nrom := by decide

theorem witness_ReachableStatesAreWellFormed : Reachable (latchNmi State.reset) := .nmi .reset

end Sys2Proof.Tests
end

section
/-! PROOF. The statements of spec 10 (state, flags, stack), the inputs, and the power cycle. An instruction's
meaning is taken apart once: its mnemonic fixes its operation (`operation_of`), and apart from the operation's
own effect there are only bus accesses, moves of PC and charged cycles (`exec_effect`). -/

namespace Sys2Proof.Machine

open Sys2Proof.Forms

variable {s t u : State}

/-! ## The status byte (10 R24, R25) -/

/-- Bit by bit, `Pack(b)` is C, Z, I, D, b, 1, V, N. -/
theorem getLsbD_pack (s : State) (b : Bool) (k : Fin 8) :
    (pack b s).getLsbD k = [s.c, s.z, s.i, s.d, b, true, s.v, s.n][k] := by
  obtain ⟨k, hk⟩ := k
  interval_cases k <;> simp only [pack, BitVec.getLsbD_append] <;> simp

/-- Masking off bits 5 and 4 leaves every other bit. -/
theorem getLsbD_and_mask (p : Byte) {k : Nat} (h : (0xCF : Byte).getLsbD k = true) :
    (p &&& 0xCF).getLsbD k = p.getLsbD k := by
  rw [BitVec.getLsbD_and, h, Bool.and_true]

/-- Settles O1, from the bits of `pack` and of a masked byte. -/
theorem packAndUnpackStatus : Obligations.PackAndUnpackStatus := by
  refine ⟨getLsbD_pack, fun s b t => ?_, fun p s => rfl, fun p q s h => ?_⟩
  · have hn : bit 7 (pack b s) = s.n := getLsbD_pack s b 7
    have hv : bit 6 (pack b s) = s.v := getLsbD_pack s b 6
    have hd : bit 3 (pack b s) = s.d := getLsbD_pack s b 3
    have hi : bit 2 (pack b s) = s.i := getLsbD_pack s b 2
    have hz : bit 1 (pack b s) = s.z := getLsbD_pack s b 1
    have hc : bit 0 (pack b s) = s.c := getLsbD_pack s b 0
    simp only [unpack, hn, hv, hd, hi, hz, hc]
  · have hk : ∀ k, (0xCF : Byte).getLsbD k = true → bit k p = bit k q := fun k m => by
      rw [bit, bit, ← getLsbD_and_mask p m, h, getLsbD_and_mask q m]
    simp only [unpack, hk 7 rfl, hk 6 rfl, hk 3 rfl, hk 2 rfl, hk 1 rfl, hk 0 rfl]

/-! ## Pushes and pulls (10 R27) -/

/-- A push changes no byte but the one at the top of the stack. -/
theorem push_read_other (b : Byte) (s : State) {key : Nat} (h : key ≠ 0x100 + s.sp.toNat) :
    (push b s).mem.read key = s.mem.read key := by
  rw [push_mem, ramKey_stackAddr]
  exact Memory.read_write_other s.mem b h

/-- A 16-bit push changes no byte but the two at the top of the stack. -/
theorem push16_read_other (w : Word) (s : State) {key : Nat} (h : key ≠ 0x100 + s.sp.toNat)
    (h' : key ≠ 0x100 + (s.sp - 1).toNat) : (push16 w s).mem.read key = s.mem.read key :=
  (push_read_other _ (push (hiByte w) s) h').trans (push_read_other _ s h)

theorem push16_sp (w : Word) (s : State) : (push16 w s).sp = s.sp - 2 := by
  simp only [push16, push_sp]
  bv_omega

/-- A pull from canonical memory gives back the byte pushed. -/
theorem pulled_push {s : State} (w : s.mem.wf = true) (b : Byte) : pulled (push b s) = b := by
  rw [pulled, push_mem, push_sp, BitVec.sub_add_cancel]
  exact Memory.read_write_same w _ b

theorem afterPull_push_sp (b : Byte) (s : State) : (afterPull (push b s)).sp = s.sp := by
  rw [afterPull_sp, push_sp, BitVec.sub_add_cancel]

theorem push_wf {s : State} (w : s.mem.wf = true) (b : Byte) : (push b s).mem.wf = true :=
  Memory.write_wf w _ b

/-- Of a 16-bit push, the low byte lies lower. -/
theorem push16_read_low {s : State} (w : s.mem.wf = true) (v : Word) :
    (push16 v s).mem.read (0x100 + (s.sp - 1).toNat) = loByte v := by
  rw [push16, push_mem, push_sp, ramKey_stackAddr]
  exact Memory.read_write_same (push_wf w _) _ _

theorem push16_read_high {s : State} (w : s.mem.wf = true) (v : Word) :
    (push16 v s).mem.read (0x100 + s.sp.toNat) = hiByte v := by
  have hk : 0x100 + s.sp.toNat ≠ 0x100 + (s.sp - 1).toNat := by bv_omega
  rw [push16, push_read_other _ (push (hiByte v) s) hk, push_mem, ramKey_stackAddr]
  exact Memory.read_write_same w _ _

theorem afterPull16_push16_sp (v : Word) (s : State) : (afterPull16 (push16 v s)).sp = s.sp := by
  rw [afterPull16, afterPull_sp, afterPull_sp, push16_sp]
  bv_omega

/-- A 16-bit pull reads the two bytes above the top of the stack, the low byte lower. -/
theorem pulled16_eq (s : State) :
    pulled16 s = mkWord (s.mem.read (0x100 + (s.sp + 2).toNat)) (s.mem.read (0x100 + (s.sp + 1).toNat)) := by
  have h2 : s.sp + 1 + 1 = s.sp + 2 := by bv_omega
  simp only [pulled16, pulled, afterPull_mem, afterPull_sp, h2, ramKey_stackAddr]

theorem pulled16_push16 {s : State} (w : s.mem.wf = true) (v : Word) : pulled16 (push16 v s) = v := by
  have h2 : s.sp - 2 + 2 = s.sp := BitVec.sub_add_cancel _ _
  have h1 : s.sp - 2 + 1 = s.sp - 1 := by bv_omega
  rw [pulled16_eq, push16_sp, h2, h1, push16_read_high w, push16_read_low w, mkWord_hi_lo]

/-- Settles O2, from what `Memory.write` leaves to be read at the two keys of the stack top. -/
theorem stackPushesAndPulls : Obligations.StackPushesAndPulls := by
  intro s b v
  refine ⟨rfl, ?_, fun tw => push_eq_memWrite tw b s, memRead_stack (s.sp + 1) s, rfl, fun w => ?_⟩
  · rw [push_mem, ramKey_stackAddr]
  · exact ⟨pulled_push w b, afterPull_push_sp b s, pulled16_push16 w v, afterPull16_push16_sp v s,
      push16_read_low w v, push16_read_high w v, fun key hk => push_read_other b s hk⟩

/-! ## Mnemonic and operation -/

/-- The operations of the instruction set, each with its mnemonic: the shape of an instruction but for its operand
form. A statement about all instructions is a case split over these. -/
inductive Operation : String → Shape → Prop where
  | ora (m : Mode) : Operation "ORA" (.read m oraA)
  | nopRead (m : Mode) : Operation "NOP" (.read m discard)
  | anc (m : Mode) : Operation "ANC" (.read m anc)
  | and (m : Mode) : Operation "AND" (.read m andA)
  | bit (m : Mode) : Operation "BIT" (.read m bitTest)
  | eor (m : Mode) : Operation "EOR" (.read m eorA)
  | alr (m : Mode) : Operation "ALR" (.read m alr)
  | adc (m : Mode) : Operation "ADC" (.read m adc)
  | arr (m : Mode) : Operation "ARR" (.read m arr)
  | ane (m : Mode) : Operation "ANE" (.read m (ane Config.aneByte))
  | ldy (m : Mode) : Operation "LDY" (.read m loadY)
  | lda (m : Mode) : Operation "LDA" (.read m loadA)
  | ldx (m : Mode) : Operation "LDX" (.read m loadX)
  | lax (m : Mode) : Operation "LAX" (.read m loadAX)
  | lxa (m : Mode) : Operation "LXA" (.read m (lxa Config.lxaByte))
  | las (m : Mode) : Operation "LAS" (.read m las)
  | cpy (m : Mode) : Operation "CPY" (.read m cmpY)
  | cmp (m : Mode) : Operation "CMP" (.read m cmpA)
  | sbx (m : Mode) : Operation "SBX" (.read m sbx)
  | cpx (m : Mode) : Operation "CPX" (.read m cmpX)
  | sbc (m : Mode) : Operation "SBC" (.read m sbc)
  | sta (m : Mode) : Operation "STA" (.store m (fun t => t.a))
  | sax (m : Mode) : Operation "SAX" (.store m (fun t => t.a &&& t.x))
  | sty (m : Mode) : Operation "STY" (.store m (fun t => t.y))
  | stx (m : Mode) : Operation "STX" (.store m (fun t => t.x))
  | sha (m : Mode) : Operation "SHA" (.unstable "SHA" m (fun t => t) (fun t => t.a &&& t.x))
  | tas (m : Mode) :
    Operation "TAS" (.unstable "TAS" m (fun t => { t with sp := t.a &&& t.x }) (fun t => t.sp))
  | shy (m : Mode) : Operation "SHY" (.unstable "SHY" m (fun t => t) (fun t => t.y))
  | shx (m : Mode) : Operation "SHX" (.unstable "SHX" m (fun t => t) (fun t => t.x))
  | slo (m : Mode) : Operation "SLO" (.rmw m aslByte afterSlo)
  | asl (m : Mode) : Operation "ASL" (.rmw m aslByte afterAsl)
  | rla (m : Mode) : Operation "RLA" (.rmw m rolByte afterRla)
  | rol (m : Mode) : Operation "ROL" (.rmw m rolByte afterAsl)
  | sre (m : Mode) : Operation "SRE" (.rmw m lsrByte afterSre)
  | lsr (m : Mode) : Operation "LSR" (.rmw m lsrByte afterLsr)
  | rra (m : Mode) : Operation "RRA" (.rmw m rorByte afterRra)
  | ror (m : Mode) : Operation "ROR" (.rmw m rorByte afterLsr)
  | dcp (m : Mode) : Operation "DCP" (.rmw m decByte afterDcp)
  | dec (m : Mode) : Operation "DEC" (.rmw m decByte afterCount)
  | isc (m : Mode) : Operation "ISC" (.rmw m incByte afterIsc)
  | inc (m : Mode) : Operation "INC" (.rmw m incByte afterCount)
  | aslAcc : Operation "ASL" (.acc aslByte afterAsl)
  | rolAcc : Operation "ROL" (.acc rolByte afterAsl)
  | lsrAcc : Operation "LSR" (.acc lsrByte afterLsr)
  | rorAcc : Operation "ROR" (.acc rorByte afterLsr)
  | php : Operation "PHP" (.implied 3 (fun t => push (pack true t) t))
  | clc : Operation "CLC" (.implied 2 (fun t => { t with c := false }))
  | nop : Operation "NOP" (.implied 2 (fun t => t))
  | plp : Operation "PLP" (.implied 4 (fun t => afterPull (unpack (pulled t) t)))
  | sec : Operation "SEC" (.implied 2 (fun t => { t with c := true }))
  | rti : Operation "RTI" (.implied 6 returnFromException)
  | pha : Operation "PHA" (.implied 3 (fun t => push t.a t))
  | cli : Operation "CLI" (.implied 2 (fun t => { t with i := false }))
  | rts : Operation "RTS" (.implied 6 returnFromSubroutine)
  | pla : Operation "PLA" (.implied 4 pullA)
  | sei : Operation "SEI" (.implied 2 (fun t => { t with i := true }))
  | dey : Operation "DEY" (.implied 2 (fun t => setNZ (t.y - 1) { t with y := t.y - 1 }))
  | txa : Operation "TXA" (.implied 2 (fun t => setNZ t.x { t with a := t.x }))
  | tya : Operation "TYA" (.implied 2 (fun t => setNZ t.y { t with a := t.y }))
  | txs : Operation "TXS" (.implied 2 (fun t => { t with sp := t.x }))
  | tay : Operation "TAY" (.implied 2 (fun t => setNZ t.a { t with y := t.a }))
  | tax : Operation "TAX" (.implied 2 (fun t => setNZ t.a { t with x := t.a }))
  | clv : Operation "CLV" (.implied 2 (fun t => { t with v := false }))
  | tsx : Operation "TSX" (.implied 2 (fun t => setNZ t.sp { t with x := t.sp }))
  | iny : Operation "INY" (.implied 2 (fun t => setNZ (t.y + 1) { t with y := t.y + 1 }))
  | dex : Operation "DEX" (.implied 2 (fun t => setNZ (t.x - 1) { t with x := t.x - 1 }))
  | cld : Operation "CLD" (.implied 2 (fun t => { t with d := false }))
  | inx : Operation "INX" (.implied 2 (fun t => setNZ (t.x + 1) { t with x := t.x + 1 }))
  | sed : Operation "SED" (.implied 2 (fun t => { t with d := true }))
  | bpl (n : Byte) : Operation "BPL" (.branch (fun s => !s.n) n)
  | bmi (n : Byte) : Operation "BMI" (.branch (fun s => s.n) n)
  | bvc (n : Byte) : Operation "BVC" (.branch (fun s => !s.v) n)
  | bvs (n : Byte) : Operation "BVS" (.branch (fun s => s.v) n)
  | bcc (n : Byte) : Operation "BCC" (.branch (fun s => !s.c) n)
  | bcs (n : Byte) : Operation "BCS" (.branch (fun s => s.c) n)
  | bne (n : Byte) : Operation "BNE" (.branch (fun s => !s.z) n)
  | beq (n : Byte) : Operation "BEQ" (.branch (fun s => s.z) n)
  | jmp (addr : Word) : Operation "JMP" (.jump addr)
  | jmpIndirect (addr : Word) : Operation "JMP" (.jumpIndirect addr)
  | jsr (addr : Word) : Operation "JSR" (.call addr)
  | brk : Operation "BRK" (.brk)
  | jam : Operation "JAM" (.lock)

theorem mnemonicOf_eq (i : Instr) : mnemonicOf i = (rowOf i).1 := mnemonic_eq i

/-- An instruction's mnemonic and shape are those of one operation (30 R74). -/
theorem operation_of (i : Instr) : Operation (mnemonicOf i) (shapeOf i) := by
  rw [mnemonicOf_eq]
  cases i <;> constructor

/-! ## What an instruction does apart from its bus accesses -/

/-- The registers and flags of spec 10 that instructions write, and the lock-up mark; PC apart. -/
structure Registers where
  a : Byte
  x : Byte
  y : Byte
  sp : Byte
  n : Bool
  v : Bool
  d : Bool
  i : Bool
  z : Bool
  c : Bool
  halted : Bool

/-- The registers of a state. -/
def regs (s : State) : Registers := ⟨s.a, s.x, s.y, s.sp, s.n, s.v, s.d, s.i, s.z, s.c, s.halted⟩

/-- From `s` to `t` there were bus accesses, moves of PC and charged cycles, and nothing else: the registers
are as they were, and what no tick writes is kept. -/
structure RegsKept (s t : State) : Prop where
  regs : regs t = regs s
  kept : Kept s t

theorem RegsKept.trans (h : RegsKept s t) (g : RegsKept t u) : RegsKept s u :=
  ⟨g.regs.trans h.regs, h.kept.trans g.kept⟩

theorem RegsKept.refl (s : State) : RegsKept s s := ⟨rfl, Kept.refl s⟩

theorem advance_regsKept (len : Word) (s : State) : RegsKept s (advance len s) := ⟨rfl, advance_kept len s⟩

theorem charge_regsKept (cost : Nat) (s : State) : RegsKept s (charge cost s) := ⟨rfl, charge_kept cost s⟩

theorem jump_regsKept (addr : Word) (s : State) : RegsKept s { s with pc := addr } :=
  ⟨rfl, Kept.of_regs rfl rfl rfl rfl rfl rfl rfl rfl⟩

theorem jumpCharged_regsKept (addr : Word) (cost : Nat) (s : State) :
    RegsKept s (charge cost { s with pc := addr }) :=
  (jump_regsKept addr s).trans (charge_regsKept cost _)

theorem afterRead_regsKept (addr : Word) (s : State) : RegsKept s (afterRead addr s) :=
  ⟨by rw [afterRead_eq_withCpu]; rfl, afterRead_kept addr s⟩

theorem afterWrite_regsKept (tw : Nat) (addr : Word) (b : Byte) (s : State) :
    RegsKept s (afterWrite tw addr b s) :=
  ⟨by rw [afterWrite_eq_withCpu]; rfl, afterWrite_kept tw addr b s⟩

theorem afterOperand_regsKept (m : Mode) (s : State) : RegsKept s (afterOperand m s) := by
  cases m
  case imm => exact RegsKept.refl s
  all_goals exact afterRead_regsKept _ s

@[simp] theorem afterOperand_mem (m : Mode) (s : State) : (afterOperand m s).mem = s.mem := by
  cases m
  case imm => rfl
  all_goals exact afterRead_mem s _

/-- What a shape does of its own between its accesses, PC apart: `b` is the byte read (the accumulator in
accumulator mode), `r` the result, `w` the return address a call or BRK pushes. -/
def Shape.effect (b r : Byte) (w : Word) : Shape → State → State
  | .read _ f => f b
  | .rmw _ _ post => post b r
  | .acc _ post => fun u => post b r { u with a := r }
  | .implied _ f => f
  | .unstable _ _ pre _ => pre
  | .call _ => push16 w
  | .brk => fun u => { push (pack true u) (push16 w u) with i := true }
  | .store _ _ | .branch _ _ | .jump _ | .jumpIndirect _ | .lock => id

/-- Whether a shape makes a bus write at an address it computes. -/
def Shape.stores : Shape → Bool
  | .store _ _ | .rmw _ _ _ | .unstable _ _ _ _ => true
  | .read _ _ | .acc _ _ | .implied _ _ | .branch _ _ | .jump _ | .jumpIndirect _ | .call _ | .brk | .lock =>
    false

/-- Whether a shape is an accumulator form. -/
def Shape.isAcc : Shape → Bool
  | .acc _ _ => true
  | .read _ _ | .store _ _ | .rmw _ _ _ | .unstable _ _ _ _ | .implied _ _ | .branch _ _ | .jump _
  | .jumpIndirect _ | .call _ | .brk | .lock => false

/-- What can stand between the start of an instruction and the state it leaves: registers are written by the
shape's own effect alone, and memory too when the shape makes no bus write. -/
def EffectBetween (sh : Shape) (s t : State) : Prop :=
  ∃ b r w u, RegsKept s u ∧ RegsKept (sh.effect b r w u) t ∧
    (sh.stores = false → u.mem = s.mem ∧ t.mem = (sh.effect b r w u).mem)

/-- An instruction that goes on did its shape's effect, and apart from it only bus accesses, moves of PC and
charged cycles (40 R91, R103-R105). -/
theorem Shape.run_effect {sh : Shape} (h : sh.run s = .next t) : EffectBetween sh s t := by
  cases sh with
  | read m f =>
    obtain ⟨_, rfl⟩ := readInstr_eq_next.1 h
    exact ⟨_, 0, 0, _, (advance_regsKept _ s).trans (afterOperand_regsKept m _), charge_regsKept _ _,
      fun _ => ⟨by simp, rfl⟩⟩
  | store m value =>
    obtain ⟨_, rfl⟩ := storeInstr_eq_next.1 h
    exact ⟨0, 0, 0, _, (advance_regsKept _ s).trans (afterWrite_regsKept _ _ _ _), charge_regsKept _ _, nofun⟩
  | rmw m result post =>
    obtain ⟨_, _, rfl⟩ := rmwInstr_eq_next.1 h
    exact ⟨_, _, 0, _, ((afterRead_regsKept _ s).trans (advance_regsKept _ _)).trans
      (afterWrite_regsKept _ _ _ _), charge_regsKept _ _, nofun⟩
  | acc result post =>
    cases h
    exact ⟨_, _, 0, _, advance_regsKept 1 s, charge_regsKept _ _, fun _ => ⟨rfl, rfl⟩⟩
  | implied cost f =>
    cases h
    exact ⟨0, 0, 0, _, advance_regsKept 1 s, charge_regsKept _ _, fun _ => ⟨rfl, rfl⟩⟩
  | unstable mnemonic m pre reg =>
    obtain ⟨_, rfl⟩ := (shInstr_eq_next (mnemonic := mnemonic) rfl).1 h
    exact ⟨0, 0, 0, _, advance_regsKept _ s, (afterWrite_regsKept _ _ _ _).trans (charge_regsKept _ _), nofun⟩
  | branch cond n =>
    cases h
    refine ⟨0, 0, 0, _, advance_regsKept 2 s, RegsKept.trans ?_ (charge_regsKept _ _), fun _ => ⟨rfl, ?_⟩⟩
    · split
      · exact jump_regsKept _ _
      · exact RegsKept.refl _
    · rw [charge_mem]; split <;> rfl
  | jump addr =>
    cases h
    exact ⟨0, 0, 0, _, advance_regsKept 3 s, jumpCharged_regsKept _ _ _, fun _ => ⟨rfl, rfl⟩⟩
  | jumpIndirect addr =>
    obtain ⟨_, _, rfl⟩ := (jmpIndInstr_eq_next rfl).1 h
    exact ⟨0, 0, 0, _, ((afterRead_regsKept _ s).trans (afterRead_regsKept _ _)).trans (advance_regsKept 3 _),
      jumpCharged_regsKept _ _ _, fun _ => ⟨by simp, rfl⟩⟩
  | call addr =>
    cases h
    exact ⟨0, 0, _, _, advance_regsKept 3 s, jumpCharged_regsKept _ _ _, fun _ => ⟨rfl, rfl⟩⟩
  | brk =>
    rw [Shape.run, brkInstr_eq s _ rfl] at h
    split at h
    · exact nomatch h
    · cases h
      exact ⟨0, 0, s.pc + 2, advance 1 s, advance_regsKept 1 s,
        jumpCharged_regsKept _ 7 (Shape.brk.effect 0 0 (s.pc + 2) (advance 1 s)), fun _ => ⟨rfl, rfl⟩⟩
  | lock => exact nomatch h

/-- What an instruction that goes on did: its operation's effect, and what lies around it. -/
theorem exec_effect {i : Instr} (h : exec i s = .next t) : EffectBetween (shapeOf i) s t :=
  Shape.run_effect (exec_eq_run i s ▸ h)

/-- The accumulator forms are the shapes that write A by their result (40 R93). -/
theorem accForm_eq (i : Instr) : accForm i = (shapeOf i).isAcc := by
  rw [accForm, mode_eq]
  cases i <;> rfl

/-! ## The writers of each register (10 R21, R22, R26) -/

/-- An effect writes a register only where its mnemonic stands in that register's list of writers. Each case
names the operations that do write the register; the case of N and Z, which most write, names the others. -/
theorem effect_writes_only_listed (i : Instr) (b r : Byte) (w : Word) (u v : State)
    (hv : v = (shapeOf i).effect b r w u) :
    (writesA i = false → v.a = u.a) ∧ (writesX i = false → v.x = u.x) ∧
    (writesY i = false → v.y = u.y) ∧ (writesS i = false → v.sp = u.sp) ∧
    (writesNZ i = false → v.n = u.n ∧ v.z = u.z) ∧ (writesV i = false → v.v = u.v) ∧
    (writesD i = false → v.d = u.d) ∧ (writesI i = false → v.i = u.i) ∧
    (writesC i = false → v.c = u.c) ∧ v.halted = u.halted := by
  subst hv
  simp only [writesA, writesX, writesY, writesS, writesNZ, writesV, writesD, writesI, writesC, accForm_eq,
    Bool.or_eq_false_iff, and_imp]
  have op := operation_of i
  generalize mnemonicOf i = name, shapeOf i = sh at op ⊢
  refine ⟨?a, ?x, ?y, ?s, ?nz, ?v, ?d, ?i, ?c, ?halted⟩
  case a =>
    cases op
    case aslAcc | lsrAcc | rolAcc | rorAcc => exact fun h => nomatch h
    case lda | pla | txa | tya | adc | sbc | and | ora | eor | slo | rla | sre | rra | lax | isc | anc | alr | arr
      | ane | lxa | las => exact fun _ h => absurd h (by decide)
    all_goals exact fun _ _ => rfl
  case x =>
    cases op
    case ldx | tax | tsx | inx | dex | lax | lxa | sbx | las => exact fun h => absurd h (by decide)
    all_goals exact fun _ => rfl
  case y =>
    cases op
    case ldy | tay | iny | dey => exact fun h => absurd h (by decide)
    all_goals exact fun _ => rfl
  case s =>
    cases op
    case txs | pha | php | pla | plp | jsr | rts | brk | rti | tas | las => exact fun h => absurd h (by decide)
    all_goals exact fun _ => rfl
  case nz =>
    cases op
    case sta | stx | sty | sax | sha | shx | shy | tas | nopRead | nop | pha | php | txs | clc | sec | cli | sei
      | cld | sed | clv | rts | bcc | bcs | bne | beq | bpl | bmi | bvc | bvs | jmp | jmpIndirect | jsr | brk
      | jam => exact fun _ => ⟨rfl, rfl⟩
    all_goals exact fun h => absurd h (by decide)
  case v =>
    cases op
    case adc | sbc | rra | isc | bit | arr | clv | plp | rti => exact fun h => absurd h (by decide)
    all_goals exact fun _ => rfl
  case d =>
    cases op
    case sed | cld | plp | rti => exact fun h => absurd h (by decide)
    all_goals exact fun _ => rfl
  case i =>
    cases op
    case sei | cli | plp | rti | brk => exact fun h => absurd h (by decide)
    all_goals exact fun _ => rfl
  case c =>
    cases op
    case adc | sbc | cmp | cpx | cpy | aslAcc | lsrAcc | rolAcc | rorAcc | asl | lsr | rol | ror | slo | rla | sre
      | rra | dcp | isc | anc | alr | arr | sbx | clc | sec | plp | rti => exact fun h => absurd h (by decide)
    all_goals exact fun _ => rfl
  case halted => cases op <;> rfl

/-- Settles O3: an instruction that goes on writes registers by its effect alone. -/
theorem onlyListedInstructionsWriteEachRegister : Obligations.OnlyListedInstructionsWriteEachRegister := by
  intro i s t h
  obtain ⟨b, r, w, u, hu, ht, -⟩ := exec_effect h
  have e := effect_writes_only_listed i b r w u _ rfl
  have hu := hu.regs
  have ht := ht.regs
  simp only [regs, Registers.mk.injEq] at hu ht
  simpa only [hu, ht] using e

/-! ## What an effect leaves of memory and of the inputs -/

/-- Only a push reaches the bus: every other effect changes registers and flags alone. -/
theorem effect_eq_withCpu {i : Instr} (hp : pushes i = false) (b r : Byte) (w : Word) (u : State) :
    ∃ v, v.irqLevel = u.irqLevel ∧ (shapeOf i).effect b r w u = withCpu v u := by
  refine ⟨(shapeOf i).effect b r w u, ?_⟩
  unfold pushes at hp
  have op := operation_of i
  generalize mnemonicOf i = name, shapeOf i = sh at op hp ⊢
  cases op
  case pha | php | jsr | brk => exact absurd hp (by decide)
  all_goals exact ⟨rfl, rfl⟩

/-- The instructions that push, with what each pushes (44 R181, R183; 45 R190, R191). -/
theorem shape_of_pushes {i : Instr} (hp : pushes i = true) :
    (∃ f : State → Byte, shapeOf i = .implied 3 fun t => push (f t) t) ∨
    (mnemonicOf i = "JSR" ∧ ∃ addr : Word, shapeOf i = .call addr) ∨
    (mnemonicOf i = "BRK" ∧ shapeOf i = .brk) := by
  unfold pushes at hp
  have op := operation_of i
  generalize mnemonicOf i = name, shapeOf i = sh at op hp ⊢
  cases op
  case pha => exact .inl ⟨State.a, rfl⟩
  case php => exact .inl ⟨pack true, rfl⟩
  case jsr addr => exact .inr (.inl ⟨rfl, addr, rfl⟩)
  case brk => exact .inr (.inr ⟨rfl, rfl⟩)
  all_goals exact absurd hp (by decide)

/-! ### Memory (10 R27) -/

/-- A shape stores at an address it computes exactly when its instruction is listed (40 R104, R105). -/
theorem shape_stores_eq (i : Instr) : (shapeOf i).stores = storesAtAddr i := by
  unfold storesAtAddr
  rw [accForm_eq]
  have op := operation_of i
  generalize mnemonicOf i = name, shapeOf i = sh at op ⊢
  cases op <;> rfl

/-- An effect changes no byte of memory but the stack bytes its instruction pushes. -/
theorem effect_read_other (i : Instr) (b r : Byte) (w : Word) (u : State) {key : Nat}
    (h0 : key ≠ 0x100 + u.sp.toNat)
    (h1 : mnemonicOf i = "JSR" ∨ mnemonicOf i = "BRK" → key ≠ 0x100 + (u.sp - 1).toNat)
    (h2 : mnemonicOf i = "BRK" → key ≠ 0x100 + (u.sp - 2).toNat) :
    ((shapeOf i).effect b r w u).mem.read key = u.mem.read key := by
  cases hp : pushes i
  case false =>
    obtain ⟨v, -, hv⟩ := effect_eq_withCpu hp b r w u
    rw [hv]; rfl
  case true =>
    obtain ⟨f, hs⟩ | ⟨hn, addr, hs⟩ | ⟨hn, hs⟩ := shape_of_pushes hp <;> rw [hs]
    · exact push_read_other (f u) u h0
    · exact push16_read_other w u h0 (h1 (.inl hn))
    · have hpush := push_read_other (pack true u) (push16 w u) (key := key) (push16_sp w u ▸ h2 hn)
      exact hpush.trans (push16_read_other w u h0 (h1 (.inr hn)))

/-- Settles O13: the memory of an instruction that does not store is that of its effect. -/
theorem otherInstructionsKeepMemory : Obligations.OtherInstructionsKeepMemory := by
  intro i s t h hs
  obtain ⟨b, r, w, u, hu, -, hm⟩ := exec_effect h
  obtain ⟨hmu, hmt⟩ := hm ((shape_stores_eq i).trans hs)
  have hsp : u.sp = s.sp := congrArg Registers.sp hu.regs
  refine ⟨fun hp => ?_, fun key h0 h1 h2 => ?_⟩
  · obtain ⟨v, -, hv⟩ := effect_eq_withCpu hp b r w u
    rw [hmt, hv, ← hmu]
    rfl
  · rw [hmt, ← hmu]
    rw [← hsp] at h0 h1 h2
    exact effect_read_other i b r w u h0 h1 h2

/-! ### The inputs (60 R277) -/

theorem withCpu_kept {v u : State} (hi : v.irqLevel = u.irqLevel) : Kept u (withCpu v u) :=
  Kept.of_regs hi rfl rfl rfl rfl rfl rfl rfl

theorem push16_kept (w : Word) (s : State) : Kept s (push16 w s) := (push_kept _ s).trans (push_kept _ _)

theorem effect_kept (i : Instr) (b r : Byte) (w : Word) (u : State) :
    Kept u ((shapeOf i).effect b r w u) := by
  cases hp : pushes i
  case false =>
    obtain ⟨v, hi, hv⟩ := effect_eq_withCpu hp b r w u
    rw [hv]
    exact withCpu_kept hi
  case true =>
    obtain ⟨f, hs⟩ | ⟨-, addr, hs⟩ | ⟨-, hs⟩ := shape_of_pushes hp <;> rw [hs]
    · exact push_kept (f u) u
    · exact push16_kept w u
    · have hpush := (push16_kept w u).trans (push_kept (pack true u) _)
      exact hpush.trans (Kept.of_regs rfl rfl rfl rfl rfl rfl rfl rfl)

/-- No instruction writes an input, the image or its size, or takes back a device event or a draw. -/
theorem exec_kept {i : Instr} (h : exec i s = .next t) : Kept s t := by
  obtain ⟨b, r, w, u, hu, ht, -⟩ := exec_effect h
  exact (hu.kept.trans (effect_kept i b r w u)).trans ht.kept

/-- Nor does any tick: a halted one, a stall tick, or the poll, the fetch and the instruction. -/
theorem tickLeaves_kept (h : TickLeaves s t) : Kept s t := by
  obtain ⟨-, rfl⟩ | ⟨-, ⟨-, rfl⟩ | ⟨-, u, i, v, hp, hf, he⟩⟩ := tickLeaves_iff.1 h
  · exact Kept.refl _
  · exact Kept.of_regs rfl rfl rfl rfl rfl rfl rfl rfl
  · have hv : Kept s v := (poll_kept hp).trans (fetchInstr_kept hf)
    obtain he | ⟨-, rfl⟩ := he
    · exact hv.trans (exec_kept he)
    · exact hv.trans (Kept.of_regs rfl rfl rfl rfl rfl rfl rfl rfl)

/-- Settles O55: what every tick keeps includes the inputs, and device events and draws only grow. -/
theorem noTickWritesAnInput : Obligations.NoTickWritesAnInput := by
  intro s t h
  have k := tickLeaves_kept h
  exact ⟨k.irqLevel, k.ppuRendering, k.devFaults, k.prgSize, k.draws, k.events⟩

/-! ## The decimal flag (10 R29) -/

/-- `s` with D set to `d`. -/
def withD (d : Bool) (s : State) : State := { s with d := d }

section DecimalFlag

variable (d : Bool) (s : State)

@[simp] theorem advance_withD (len : Word) : advance len (withD d s) = withD d (advance len s) := rfl

@[simp] theorem charge_withD (cost : Nat) : charge cost (withD d s) = withD d (charge cost s) := rfl

@[simp] theorem effAddr_withD (m : Mode) : effAddr m (withD d s) = effAddr m s := by cases m <;> rfl

@[simp] theorem baseAddr_withD (m : Mode) : baseAddr m (withD d s) = baseAddr m s := by cases m <;> rfl

@[simp] theorem pageCross_withD (m : Mode) : pageCross m (withD d s) = pageCross m s := by simp [pageCross]

@[simp] theorem readCost_withD (m : Mode) : readCost m (withD d s) = readCost m s := by simp [readCost]

@[simp] theorem shHigh_withD (m : Mode) : shHigh m (withD d s) = shHigh m s := by simp [shHigh]

@[simp] theorem shAddr_withD (m : Mode) (b : Byte) : shAddr m b (withD d s) = shAddr m b s := by simp [shAddr]

@[simp] theorem writeCycle_withD (cost : Nat) : writeCycle cost (withD d s) = writeCycle cost s := rfl

theorem afterRead_withD (addr : Word) : afterRead addr (withD d s) = withD d (afterRead addr s) := by
  rw [show withD d s = withCpu (withD d s) s from rfl, afterRead_withCpu, afterRead_eq_withCpu s]
  rfl

theorem afterWrite_withD (tw : Nat) (addr : Word) (b : Byte) :
    afterWrite tw addr b (withD d s) = withD d (afterWrite tw addr b s) := by
  rw [show withD d s = withCpu (withD d s) s from rfl, afterWrite_withCpu, afterWrite_eq_withCpu s]
  rfl

/-- A fault that is no lock-up holds no state to map. -/
theorem mapState_fault (f : State → State) {e : Fault} (h : ∀ t, e ≠ .lockup t) :
    mapState f (.fault e) = .fault e := by
  cases e
  case lockup t => exact absurd rfl (h t)
  all_goals rfl

/-- A bus read does not see D, so a sequence that begins with one commutes with setting D if its rest does. -/
theorem andThen_memRead_withD {addr : Word} {k k' : Byte × State → Res State}
    (h : ∀ b u, k (b, withD d u) = mapState (withD d) (k' (b, u))) :
    andThen (memRead addr (withD d s)) k = mapState (withD d) (andThen (memRead addr s) k') := by
  have hf : readFault addr (withD d s) = readFault addr s := rfl
  have hb : readByte addr (withD d s) = readByte addr s := rfl
  simp only [memRead, hf, hb, afterRead_withD]
  cases he : readFault addr s with
  | none => exact h _ _
  | some e => exact (mapState_fault _ fun t ht => readFault_ne_lockup addr s t (ht ▸ he)).symm

/-- So does one that begins with a bus write. -/
theorem andThen_memWrite_withD {tw : Nat} {addr : Word} {b : Byte} {k k' : State → Res State}
    (h : ∀ u, k (withD d u) = mapState (withD d) (k' u)) :
    andThen (memWrite tw addr b (withD d s)) k = mapState (withD d) (andThen (memWrite tw addr b s) k') := by
  have hf : writeFault addr b (withD d s) = writeFault addr b s := rfl
  simp only [memWrite, hf, afterWrite_withD]
  cases he : writeFault addr b s with
  | none => exact h _
  | some e => exact (mapState_fault _ fun t ht => writeFault_ne_lockup addr b s t (ht ▸ he)).symm

end DecimalFlag

/-- No function of the shape sees or writes D. BRK's does see it: it pushes the status. -/
def Shape.IgnoresD (d : Bool) : Shape → Prop
  | .read _ f => ∀ b u, f b (withD d u) = withD d (f b u)
  | .store _ value => ∀ u, value (withD d u) = value u
  | .rmw _ _ post => ∀ b r u, post b r (withD d u) = withD d (post b r u)
  | .acc _ post => ∀ b r u, post b r (withD d u) = withD d (post b r u)
  | .implied _ f => ∀ u, f (withD d u) = withD d (f u)
  | .unstable _ _ pre reg => (∀ u, pre (withD d u) = withD d (pre u)) ∧ ∀ u, reg (withD d u) = reg u
  | .branch cond _ => ∀ u, cond (withD d u) = cond u
  | .jump _ | .jumpIndirect _ | .call _ | .lock => True
  | .brk => False

/-- The operations that see or write D are those that push or pull the status, SED and CLD. -/
theorem shape_ignoresD (d : Bool) {i : Instr}
    (hi : ["PHP", "BRK", "PLP", "RTI", "SED", "CLD"].contains (mnemonicOf i) = false) :
    (shapeOf i).IgnoresD d := by
  have op := operation_of i
  generalize mnemonicOf i = name, shapeOf i = sh at op hi ⊢
  cases op
  case php | brk | plp | rti | sed | cld => exact absurd hi (by decide)
  case jmp | jmpIndirect | jsr | jam => exact trivial
  case nop => exact fun _ => rfl
  case sha | shx | shy | tas => exact ⟨fun _ => rfl, fun _ => rfl⟩
  all_goals simp only [Shape.IgnoresD]; intros; rfl

/-- A shape that ignores D runs the same with D set either way. -/
theorem Shape.run_withD {d : Bool} {sh : Shape} (h : sh.IgnoresD d) (s : State) :
    sh.run (withD d s) = mapState (withD d) (sh.run s) := by
  cases sh with
  | read m f =>
    simp only [Shape.run, readInstr, dummyRead_none, andThen_next, advance_withD, readCost_withD]
    cases m
    case imm n => simp only [fetchOperand, andThen_next, h _ _]; rfl
    all_goals
      simp only [fetchOperand, effAddr_withD]
      exact andThen_memRead_withD d _ fun b u => by rw [h b u]; rfl
  | store m value =>
    simp only [Shape.run, storeInstr, dummyRead_none, andThen_next, advance_withD, effAddr_withD,
      writeCycle_withD, h _]
    exact andThen_memWrite_withD d _ fun u => rfl
  | rmw m result post =>
    simp only [Shape.run, rmwInstr, dummyRead_none, dummyWrite_none, andThen_next, advance_withD, effAddr_withD,
      writeCycle_withD]
    exact andThen_memRead_withD d _ fun b u => andThen_memWrite_withD d _ fun u => by rw [h]; rfl
  | acc result post =>
    have hp := h s.a (result s.a s.c) { advance 1 s with a := result s.a s.c }
    exact congrArg (fun u => Host.Outcome.next (charge 2 u)) hp
  | implied cost f => exact congrArg (fun u => Host.Outcome.next (charge cost u)) (h (advance 1 s))
  | unstable mnemonic m pre reg =>
    obtain ⟨hp, hr⟩ := h
    simp only [Shape.run, shInstr, dummyRead_none, andThen_next, advance_withD, hp, hr, shHigh_withD,
      shAddr_withD, writeCycle_withD]
    exact andThen_memWrite_withD d _ fun u => rfl
  | branch cond n =>
    simp only [Shape.run, branchInstr, h s]
    cases cond s <;> rfl
  | jump addr => rfl
  | jumpIndirect addr =>
    simp only [Shape.run, jmpIndInstr, advance_withD]
    exact andThen_memRead_withD d _ fun b u => andThen_memRead_withD d _ fun c v => rfl
  | call addr => rfl
  | brk => exact h.elim
  | lock => rfl

/-- Settles O4: the mnemonics that are not excepted have shapes that ignore D. -/
theorem decimalFlagHasNoEffect : Obligations.DecimalFlagHasNoEffect := by
  intro i s d hi
  rw [exec_eq_run, exec_eq_run]
  exact Shape.run_withD (shape_ignoresD d hi) s

/-! ## The power cycle (70 R290-R292) -/

/-- Loading RAM writes no key below its first and none past the end of RAM. -/
theorem read_loadRam_other (bytes : List Byte) : ∀ {key other : Nat} (m : Memory),
    other < key ∨ 0x800 ≤ other → (loadRam key bytes m).read other = m.read other := by
  induction bytes with
  | nil => intros; rfl
  | cons b rest ih =>
    intro key other m h
    rw [loadRam]
    split
    · rw [ih _ (by omega), Memory.read_write_other m b (by omega)]
    · rfl

/-- A byte of RAM after loading is the one given for it; where none is given, the one there before. -/
theorem read_loadRam (bytes : List Byte) : ∀ {key k : Nat} {m : Memory},
    m.wf = true → key ≤ k → k < 0x800 → (loadRam key bytes m).read k = bytes.getD (k - key) (m.read k) := by
  induction bytes with
  | nil => intros; rfl
  | cons b rest ih =>
    intro key k m w hk hk'
    rw [loadRam, if_pos (by omega)]
    obtain rfl | hne := Nat.eq_or_lt_of_le hk
    · rw [read_loadRam_other rest _ (.inl (Nat.lt_succ_self _)), Memory.read_write_same w, Nat.sub_self,
        List.getD_cons_zero]
    · have hs : k - key = k - (key + 1) + 1 := by omega
      rw [ih (Memory.write_wf w key b) hne hk', Memory.read_write_other m b (by omega), hs,
        List.getD_cons_succ]

/-- Dropping the keys below a bound makes them read as blank and leaves the others. -/
theorem read_filter_ge (lo key : Nat) (m : Memory) :
    Memory.read (m.filter fun cell => decide (lo ≤ cell.1)) key =
      if lo ≤ key then m.read key else blankByte := by
  induction m with
  | nil => simp [Memory.read]
  | cons cell rest ih =>
    obtain ⟨k, b⟩ := cell
    rw [List.filter_cons]
    by_cases hlo : lo ≤ k
    · simp only [hlo, decide_true, if_true, Memory.read, ih]
      by_cases hk : key = k
      · rw [if_pos hk, if_pos hk, if_pos (hk ▸ hlo)]
      · rw [if_neg hk, if_neg hk]
    · simp only [hlo, decide_false, Bool.false_eq_true, if_false, Memory.read, ih]
      split
      · rw [if_neg (by omega)]
      · rfl

theorem rebuilt_mem (p : PowerOn) (s : State) :
    (rebuilt p s).mem = loadRam 0 p.ram (cartMemory p.keepPrgRam s.mem) := rfl

theorem rebuilt_mapper (p : PowerOn) (s : State) :
    (rebuilt p s).mapper = rebuiltMapper p.mapperState s.mapper := rfl

/-- What the rebuilt machine reads outside RAM: the image, and PRG RAM kept or blank. -/
theorem rebuilt_read_cart (p : PowerOn) (s : State) {key : Nat} (h : 0x800 ≤ key) :
    (rebuilt p s).mem.read key =
      if (if p.keepPrgRam then 0x6000 else 0x8000) ≤ key then s.mem.read key else 0 := by
  rw [rebuilt_mem, read_loadRam_other p.ram _ (.inr h)]
  exact read_filter_ge _ key s.mem

theorem rebuilt_read_image (p : PowerOn) (s : State) {key : Nat} (h : 0x8000 ≤ key) :
    (rebuilt p s).mem.read key = s.mem.read key := by
  rw [rebuilt_read_cart p s (by omega), if_pos]
  split <;> omega

theorem rebuilt_read_prgRam (p : PowerOn) (s : State) {key : Nat} (h : 0x6000 ≤ key) (h' : key < 0x8000) :
    (rebuilt p s).mem.read key = if p.keepPrgRam then s.mem.read key else 0 := by
  rw [rebuilt_read_cart p s (by omega)]
  cases p.keepPrgRam
  · exact if_neg (by simpa using h')
  · exact if_pos h

/-- RAM is the draw, and blank where the draw gives no byte. -/
theorem rebuilt_read_ram (p : PowerOn) {s : State} (w : s.mem.wf = true) {k : Nat} (h : k < 0x800) :
    (rebuilt p s).mem.read k = p.ram.getD k 0 := by
  have hb : (cartMemory p.keepPrgRam s.mem).read k = 0 :=
    (read_filter_ge _ k s.mem).trans (if_neg (by split <;> omega))
  have hw : (cartMemory p.keepPrgRam s.mem).wf = true := Memory.filter_wf _ w
  rw [rebuilt_mem, read_loadRam p.ram hw (Nat.zero_le k) h, hb, Nat.sub_zero]

theorem rebuilt_nrom (p : PowerOn) {s : State} (h : s.mapper = .nrom) : (rebuilt p s).mapper = .nrom := by
  rw [rebuilt_mapper, h]
  rfl

theorem rebuilt_other (p : PowerOn) {s : State} (h : s.mapper ≠ .nrom) :
    (rebuilt p s).mapper = .other p.mapperState := by
  rw [rebuilt_mapper]
  cases hm : s.mapper
  · exact absurd hm h
  · rfl

theorem pack_rebuilt (p : PowerOn) (s : State) : pack false (rebuilt p s) = 0x24 := by
  simp only [pack, rebuilt]
  decide

/-- A power cycle is the rebuilt machine with PC from the vector, or the fault of a vector read. -/
theorem powerOn_eq (p : PowerOn) (s : State) : powerOn p s = match vectorFault resetVector (rebuilt p s) with
    | some e => .fault e
    | none => .next { rebuilt p s with pc := vectorWord resetVector (rebuilt p s) } := by
  rw [powerOn, read16_vector _ (by decide) (by decide)]
  cases vectorFault resetVector (rebuilt p s) <;> rfl

/-- Settles O56, with the rebuilt machine as the state a power cycle leaves before the vector read. -/
theorem resetSequence : Obligations.ResetSequence := by
  intro p s
  have nrom (h : s.mapper = .nrom) : vectorFault resetVector (rebuilt p s) = none :=
    vectorFault_nrom (rebuilt_nrom p h) (by decide) (by decide)
  refine ⟨rebuilt p s, fun h => ?_, fun e h => ?_, nrom, rfl, rfl, rfl, rfl, pack_rebuilt p s,
    rfl, rfl, rfl, rfl, rfl, rfl, rfl, rfl, rfl, rfl, fun w k => rebuilt_read_ram p w,
    fun key => rebuilt_read_prgRam p s, fun key => rebuilt_read_image p s, rebuilt_nrom p, rebuilt_other p,
    rfl, rfl, rfl, rfl, rfl, rfl⟩
  · rw [powerOn_eq, resetVector, h]; rfl
  · rw [powerOn_eq, resetVector, h]

end Sys2Proof.Machine
end

section
/-! PROOF. The statements of spec 20 on the bus, and that no tick writes PRG ROM. What an access does in each region
of the address map is said once; the statements put the regions together. OAM DMA is an induction over the bytes
copied so far. -/

namespace Sys2Proof.Machine

variable {s : State} {addr : Word} {v : Byte}

/-- Settles O11: PRG ROM, its size and the NROM mapper are among what every tick keeps. -/
theorem noTickWritesRom : Obligations.NoTickWritesRom := by
  intro s t h
  have k := tickLeaves_kept h
  exact ⟨k.prgSize, k.nrom, k.rom⟩

/-! ## The regions between RAM and the cartridge (20 R43) -/

theorem region_io (h : 0x4000 ≤ addr.toNat) (h' : addr.toNat ≤ 0x4017) : region addr = .io := by
  rw [region, if_neg (by omega), if_neg (by omega), if_pos h']

/-- The device registers are two regions, the PPU's, mirrored, and those of the APU and the controllers. -/
theorem region_device (h : 0x2000 ≤ addr.toNat) (h' : addr.toNat ≤ 0x4017) :
    region addr = .ppu ∨ region addr = .io := by
  by_cases ppu : addr.toNat ≤ 0x3FFF
  · exact .inl (by rw [region, if_neg (by omega), if_pos ppu])
  · exact .inr (region_io (by omega) h')

theorem region_test (h : 0x4018 ≤ addr.toNat) (h' : addr.toNat ≤ 0x401F) : region addr = .test := by
  rw [region, if_neg (by omega), if_neg (by omega), if_neg (by omega), if_pos h']

/-- The register a device address selects, by its number (20 R48, R49). -/
theorem devReg_eq (addr : Word) :
    devReg addr = if addr.toNat ≤ 0x3FFF then BitVec.ofNat 16 (0x2000 + addr.toNat % 8) else addr := by
  have low : (addr &&& 0x0007).toNat = addr.toNat % 8 := by
    rw [BitVec.toNat_and]
    exact Nat.and_two_pow_sub_one_eq_mod addr.toNat 3
  unfold devReg
  split
  · apply BitVec.eq_of_toNat_eq
    rw [BitVec.toNat_add, low, BitVec.toNat_ofNat]
    rfl
  · rfl

/-! ## Bus accesses by region (20 R44-R50) -/

theorem memRead_of_fault {e : Fault} (h : readFault addr s = some e) : memRead addr s = .fault e := by
  rw [memRead, h]

theorem memWrite_of_fault {tw : Nat} {b : Byte} {e : Fault} (h : writeFault addr b s = some e) :
    memWrite tw addr b s = .fault e := by
  rw [memWrite, h]

theorem memRead_ram (s : State) (h : addr.toNat ≤ 0x1FFF) : memRead addr s = .next (s.mem.read (ramKey addr), s) :=
  memRead_plain (memKey_ram s (region_ram (Nat.lt_succ_of_le h)))

theorem memWrite_ram (tw : Nat) (b : Byte) (s : State) (h : addr.toNat ≤ 0x1FFF) :
    memWrite tw addr b s = .next { s with mem := s.mem.write (ramKey addr) b } := by
  simp only [memWrite, writeFault, afterWrite, region_ram (Nat.lt_succ_of_le h)]

theorem readFault_device (s : State) (h : 0x2000 ≤ addr.toNat) (h' : addr.toNat ≤ 0x4017) :
    readFault addr s = devFault false (devReg addr) s := by
  obtain hr | hr := region_device h h' <;> simp only [readFault, hr]

theorem readByte_device (s : State) (h : 0x2000 ≤ addr.toNat) (h' : addr.toNat ≤ 0x4017) :
    readByte addr s = Config.devRead s.draws (devReg addr) := by
  obtain hr | hr := region_device h h' <;> simp only [readByte, hr]

theorem afterRead_device (s : State) (h : 0x2000 ≤ addr.toNat) (h' : addr.toNat ≤ 0x4017) :
    afterRead addr s =
      { s with devEvents := s.devEvents ++ [.read (devReg addr)], draws := s.draws + 1 } := by
  obtain hr | hr := region_device h h' <;> simp only [afterRead, hr]

/-- The device's own fault comes before any of OAM DMA. -/
theorem writeFault_device_of_fault {b : Byte} {e : Fault} (h : 0x2000 ≤ addr.toNat) (h' : addr.toNat ≤ 0x4017)
    (hf : devFault true (devReg addr) s = some e) : writeFault addr b s = some e := by
  obtain hr | hr := region_device h h' <;> simp only [writeFault, hr, hf]

/-- A device that takes a write sees it, and away from the trigger of OAM DMA nothing else happens. -/
theorem memWrite_device (tw : Nat) (b : Byte) (h : 0x2000 ≤ addr.toNat) (h' : addr.toNat ≤ 0x4017)
    (hd : addr ≠ 0x4014) (hf : devFault true (devReg addr) s = none) :
    memWrite tw addr b s = .next (devWrite (devReg addr) b s) := by
  have trigger : addr ≠ oamDmaReg := hd
  obtain hr | hr := region_device h h' <;> simp only [memWrite, writeFault, afterWrite, hr, hf, if_neg trigger]

theorem readFault_test (s : State) (h : 0x4018 ≤ addr.toNat) (h' : addr.toNat ≤ 0x401F) :
    readFault addr s = some .unmappedAccess := by
  simp only [readFault, region_test h h', testRegionFault, Config.testRegionPolicy]

theorem writeFault_test (b : Byte) (s : State) (h : 0x4018 ≤ addr.toNat) (h' : addr.toNat ≤ 0x401F) :
    writeFault addr b s = some .unmappedAccess := by
  simp only [writeFault, region_test h h', testRegionFault, Config.testRegionPolicy]

theorem readFault_cart (s : State) (h : 0x4020 ≤ addr.toNat) :
    readFault addr s = cartReadFault Config.cart addr s := by
  simp only [readFault, region_cart h]

/-- A read of cartridge space that does not fault has no effect (20 R47). -/
theorem memRead_cart (h : 0x4020 ≤ addr.toNat) (hf : cartReadFault Config.cart addr s = none) :
    memRead addr s = .next (cartByte Config.cart addr s, s) := by
  simp only [memRead, readFault, readByte, afterRead, region_cart h, hf]

theorem writeFault_cart (b : Byte) (s : State) (h : 0x4020 ≤ addr.toNat) :
    writeFault addr b s = cartWriteFault Config.cart addr b s := by
  simp only [writeFault, region_cart h]

theorem memWrite_cart (tw : Nat) {b : Byte} (h : 0x4020 ≤ addr.toNat)
    (hf : cartWriteFault Config.cart addr b s = none) :
    memWrite tw addr b s = .next (afterCartWrite Config.cart addr b s) := by
  simp only [memWrite, writeFault, afterWrite, region_cart h, hf]

/-! ## The address map (20 R43-R52) -/

/-- Settles O5: mirrors have one key, and a write changes what is read at its own key alone. -/
theorem ramMirrorsNameOneByte : Obligations.RamMirrorsNameOneByte := by
  intro tw s addr other b w ha ho
  refine ⟨_, memWrite_ram tw b s ha, fun same => ?_, fun differ => ?_, rfl⟩
  · have hk : ramKey other = ramKey addr := congrArg BitVec.toNat same.symm
    rw [memRead_ram _ ho, hk, Memory.read_write_same w]
  · have hk : ramKey other ≠ ramKey addr := fun e => differ (BitVec.eq_of_toNat_eq e.symm)
    exact ⟨_, memRead_ram s ho, by rw [memRead_ram _ ho, Memory.read_write_other s.mem b hk]⟩

/-- Settles O6, region by region. -/
theorem busReadByRegion : Obligations.BusReadByRegion := by
  intro addr s
  by_cases ram : addr.toNat ≤ 0x1FFF
  · rw [if_pos ram, memRead_ram s ram, ramKey_eq]
  rw [if_neg ram]
  by_cases dev : addr.toNat ≤ 0x4017
  · have lo : 0x2000 ≤ addr.toNat := by omega
    simp only [if_pos dev, ← devReg_eq]
    cases hf : devFault false (devReg addr) s with
    | some e => exact memRead_of_fault ((readFault_device s lo dev).trans hf)
    | none =>
      rw [memRead_of_readable ((readFault_device s lo dev).trans hf), readByte_device s lo dev,
        afterRead_device s lo dev]
  rw [if_neg dev]
  by_cases test : addr.toNat ≤ 0x401F
  · rw [if_pos test, memRead_of_fault (readFault_test s (by omega) test)]
  rw [if_neg test]
  have cart : 0x4020 ≤ addr.toNat := by omega
  have fault := readFault_cart s cart
  have goesOn := memRead_cart (s := s) cart
  cases hm : s.mapper with
  | nrom =>
    simp only [cartReadFault, cartByte, hm] at fault goesOn ⊢
    by_cases unmapped : addr.toNat < 0x6000
    · rw [if_pos unmapped] at fault ⊢
      exact memRead_of_fault fault
    · rw [if_neg unmapped, goesOn (if_neg unmapped)]
      split <;> rfl
  | other state =>
    simp only [cartReadFault, cartByte, hm] at fault goesOn ⊢
    cases hr : Config.cart.read state addr with
    | ok b => simpa only [hr] using goesOn (by rw [hr, responderFault])
    | error kind => exact memRead_of_fault (by rw [fault, hr, responderFault])

/-- Settles O7, region by region. -/
theorem busWriteByRegion : Obligations.BusWriteByRegion := by
  intro tw addr b s hd
  by_cases ram : addr.toNat ≤ 0x1FFF
  · rw [if_pos ram, memWrite_ram tw b s ram, ramKey_eq]
  rw [if_neg ram]
  by_cases dev : addr.toNat ≤ 0x4017
  · have lo : 0x2000 ≤ addr.toNat := by omega
    simp only [if_pos dev, ← devReg_eq]
    cases hf : devFault true (devReg addr) s with
    | some e => exact memWrite_of_fault (writeFault_device_of_fault lo dev hf)
    | none => exact memWrite_device tw b lo dev hd hf
  rw [if_neg dev]
  by_cases test : addr.toNat ≤ 0x401F
  · rw [if_pos test, memWrite_of_fault (writeFault_test b s (by omega) test)]
  rw [if_neg test]
  have cart : 0x4020 ≤ addr.toNat := by omega
  have fault := writeFault_cart b s cart
  have goesOn := memWrite_cart (s := s) (b := b) tw cart
  cases hm : s.mapper with
  | nrom =>
    simp only [cartWriteFault, afterCartWrite, hm] at fault goesOn ⊢
    by_cases unmapped : addr.toNat < 0x6000
    · rw [if_pos unmapped] at fault ⊢
      exact memWrite_of_fault fault
    · have mapped : 0x6000 ≤ addr.toNat := Nat.le_of_not_lt unmapped
      rw [if_neg unmapped, goesOn (if_neg unmapped)]
      simp only [mapped, true_and]
      split <;> rfl
  | other state =>
    simp only [cartWriteFault, afterCartWrite, hm] at fault goesOn ⊢
    cases hr : Config.cart.write state addr b with
    | ok state' => simpa only [hr] using goesOn (by rw [hr, responderFault])
    | error kind => exact memWrite_of_fault (by rw [fault, hr, responderFault])

/-! ## Device faults (20 R53, 60 R262) -/

/-- PPUDATA while the PPU renders: the fault of 20 R53, whatever the responders would answer. -/
theorem devFault_rendering (onWrite : Bool) (h : s.ppuRendering = true) :
    devFault onWrite 0x2007 s = some .ppuDataDuringRendering := by
  simp [devFault, ppuDataViolation, Config.ppuDataRenderPolicy, h]

/-- Any other access is left to the responders: the first that is listed for the register and the direction. -/
theorem devFault_responder (onWrite : Bool) {reg : Word} (h : reg ≠ 0x2007 ∨ s.ppuRendering = false) :
    devFault onWrite reg s =
      (s.devFaults.find? fun f => f.reg == reg && f.onWrite == onWrite).map fun f => .deviceFault f.kind := by
  have permitted : ppuDataViolation Config.ppuDataRenderPolicy reg s = false := by
    simpa [ppuDataViolation, Config.ppuDataRenderPolicy, ← imp_iff_not_or] using h
  simp only [devFault, permitted, Bool.false_eq_true, if_false]

/-- Settles O8, from the two cases of `devFault`. -/
theorem ppuDataDuringRenderingFaults : Obligations.PpuDataDuringRenderingFaults := by
  refine fun tw addr b s => ⟨fun lo hi mirror rendering => ?_, fun write reg quiet unlisted => ?_,
    fun f listed quiet => ?_⟩
  · have top : addr.toNat ≤ 0x4017 := by omega
    have ppuData : devReg addr = 0x2007 := by rw [devReg_eq, if_pos hi, mirror]; rfl
    have fault (onWrite : Bool) : devFault onWrite (devReg addr) s = some .ppuDataDuringRendering := by
      rw [ppuData, devFault_rendering onWrite rendering]
    exact ⟨memRead_of_fault ((readFault_device s lo top).trans (fault false)),
      memWrite_of_fault (writeFault_device_of_fault lo top (fault true))⟩
  · rw [devFault_responder write quiet, Option.map_eq_none_iff, List.find?_eq_none]
    intro f hf
    simpa using unlisted f hf
  · rw [devFault_responder f.onWrite quiet]
    cases hg : s.devFaults.find? fun g => g.reg == f.reg && g.onWrite == f.onWrite with
    | none => exact absurd (List.find?_eq_none.1 hg f listed) (by simp)
    | some g =>
      have found := List.find?_some hg
      simp only [Bool.and_eq_true, beq_iff_eq] at found
      exact ⟨g, List.mem_of_find?_eq_some hg, found.1, found.2, rfl⟩

/-! ## OAM DMA (20 R54-R56) -/

/-- The address of byte `k` of a page. -/
theorem pageAddr_toNat (v : Byte) (k : Nat) :
    (mkWord v (BitVec.ofNat 8 k)).toNat = v.toNat * 256 + k % 256 := by
  rw [mkWord_toNat, BitVec.toNat_ofNat]

/-! ### Whether it faults -/

theorem dmaFault_eq_none : dmaFault v s = none ↔ ∀ k, k < 256 → Readable (mkWord v (BitVec.ofNat 8 k)) s := by
  simp only [dmaFault, List.findSome?_eq_none_iff, List.mem_range, Readable]

/-- Reads that fault after the first one that does make no difference. -/
theorem dmaFault_eq_first {k : Nat} {e : Fault} (hk : k < 256)
    (hf : readFault (mkWord v (BitVec.ofNat 8 k)) s = some e)
    (first : ∀ j, j < k → readFault (mkWord v (BitVec.ofNat 8 j)) s = none) : dmaFault v s = some e := by
  obtain ⟨m, hm⟩ := Nat.exists_eq_add_of_le (Nat.succ_le_of_lt hk)
  have cut : List.range 256 = List.range k ++ k :: (List.range m).map (k + 1 + ·) := by
    rw [hm, List.range_add, List.range_succ, List.append_assoc, List.singleton_append]
  exact List.findSome?_eq_some_iff.2 ⟨_, k, _, cut, hf, fun j hj => first j (List.mem_range.1 hj)⟩

/-- A $4014 write that the device takes faults as its DMA does (20 R45, R54). -/
theorem writeFault_oamDma (hf : devFault true 0x4014 s = none) : writeFault 0x4014 v s = dmaFault v s := by
  have hr : region 0x4014 = .io := by decide
  have hreg : devReg 0x4014 = 0x4014 := by decide
  simp only [writeFault, hr, hreg, hf, oamDmaReg, if_true]

theorem memWrite_oamDma (tw : Nat) (hf : devFault true 0x4014 s = none)
    (hd : ∀ k, k < 256 → Readable (mkWord v (BitVec.ofNat 8 k)) s) :
    memWrite tw 0x4014 v s = .next (oamDma tw v (devWrite 0x4014 v s)) :=
  memWrite_of_writable ((writeFault_oamDma hf).trans (dmaFault_eq_none.2 hd))

/-- Settles O10: the device answers before the DMA, and of the DMA's reads the first that faults decides. -/
theorem oamDmaFaultsWithItsFirstRead : Obligations.OamDmaFaultsWithItsFirstRead := by
  refine fun tw v s e => ⟨fun hf => ?_, fun k hk hf hr first => ?_⟩
  · exact memWrite_of_fault (writeFault_device_of_fault (by decide) (by decide) hf)
  · exact memWrite_of_fault ((writeFault_oamDma hf).trans (dmaFault_eq_first hk hr first))

/-! ### What it copies, and its cost -/

/-- The copy of a page that is read without effect, up to any byte: one event for each (20 R54). -/
theorem foldl_dmaByte_plain
    (plain : ∀ k, region (mkWord v (BitVec.ofNat 8 k)) = .ram ∨ region (mkWord v (BitVec.ofNat 8 k)) = .cart)
    (s : State) (n : Nat) : (List.range n).foldl (dmaByte v) s = { s with
      devEvents := s.devEvents ++ (List.range n).map fun k => .oam (readByte (mkWord v (BitVec.ofNat 8 k)) s) } := by
  induction n with
  | zero => simp
  | succ n ih =>
    have quiet (u : State) : afterRead (mkWord v (BitVec.ofNat 8 n)) u = u := by
      obtain hr | hr := plain n <;> simp only [afterRead, hr]
    simp only [List.range_succ, List.foldl_append, ih, List.foldl_cons, List.foldl_nil, dmaByte, quiet,
      List.map_append, List.map_cons, List.map_nil, ← List.append_assoc]
    rfl

/-- The PPU register that byte `k` of a page $20-$3F is (20 R48). -/
theorem devReg_ppuPage (hi : v.toNat ≤ 0x3F) (k : Nat) :
    devReg (mkWord v (BitVec.ofNat 8 k)) = BitVec.ofNat 16 (0x2000 + k % 8) := by
  have addr := pageAddr_toNat v k
  have low : (v.toNat * 256 + k % 256) % 8 = k % 8 := by omega
  rw [devReg_eq, if_pos (by omega), addr, low]

/-- The copy of a page of PPU registers, up to any byte: for each a read, a draw, and the byte handed on. -/
theorem foldl_dmaByte_ppu (lo : 0x20 ≤ v.toNat) (hi : v.toNat ≤ 0x3F) (s : State) (n : Nat) :
    (List.range n).foldl (dmaByte v) s = { s with
      devEvents := s.devEvents ++ (List.range n).flatMap fun k =>
        let reg : Word := BitVec.ofNat 16 (0x2000 + k % 8)
        [.read reg, .oam (Config.devRead (s.draws + k) reg)]
      draws := s.draws + n } := by
  induction n with
  | zero => simp
  | succ n ih =>
    have addr := pageAddr_toNat v n
    have read := fun u => readByte_device (addr := mkWord v (BitVec.ofNat 8 n)) u (by omega) (by omega)
    have after := fun u => afterRead_device (addr := mkWord v (BitVec.ofNat 8 n)) u (by omega) (by omega)
    simp only [List.range_succ, List.foldl_append, ih, List.foldl_cons, List.foldl_nil, dmaByte, read, after,
      devReg_ppuPage hi, List.flatMap_append, List.flatMap_cons, List.flatMap_nil, List.append_assoc,
      List.cons_append, List.nil_append, Nat.add_assoc]

theorem dmaCycles_eq (tw : Nat) : dmaCycles Config.dmaOddExtra tw = if tw % 2 = 1 then 514 else 513 := by
  by_cases h : tw % 2 = 1 <;> simp [dmaCycles, Config.dmaOddExtra, h]

/-- OAM DMA is the copy and its cost. -/
theorem oamDma_eq (tw : Nat) (v : Byte) (s : State) : oamDma tw v s =
    { (List.range 256).foldl (dmaByte v) s with stall := s.stall + if tw % 2 = 1 then 514 else 513 } := by
  rw [← dmaCycles_eq, ← dmaCopy_stall s v]
  rfl

/-- Settles O9, from the copies of the two kinds of page. -/
theorem oamDmaCopiesPage : Obligations.OamDmaCopiesPage := by
  refine fun tw v s hf => ⟨fun page => ?_, fun lo hi regs => ?_⟩
  · have plain (k : Nat) :
        region (mkWord v (BitVec.ofNat 8 k)) = .ram ∨ region (mkWord v (BitVec.ofNat 8 k)) = .cart := by
      have addr := pageAddr_toNat v k
      obtain ram | ⟨-, cart⟩ | ⟨cart, -⟩ := page
      · exact .inl (region_ram (by omega))
      · exact .inr (region_cart (by omega))
      · exact .inr (region_cart (by omega))
    have readable : ∀ k, k < 256 → Readable (mkWord v (BitVec.ofNat 8 k)) s := by
      intro k hk
      have addr := pageAddr_toNat v k
      obtain ram | ⟨hm, nrom⟩ | ⟨-, readable⟩ := page
      · simp only [Readable, readFault, region_ram (addr := mkWord v (BitVec.ofNat 8 k)) (by omega)]
      · rw [Readable, readFault_cart s (by omega), cartReadFault, hm]
        exact if_neg (by omega)
      · exact readable k hk
    rw [memWrite_oamDma tw hf readable, oamDma_eq, foldl_dmaByte_plain plain, devWrite_devEvents,
      List.append_assoc]
    rfl
  · have readable : ∀ k, k < 256 → Readable (mkWord v (BitVec.ofNat 8 k)) s := by
      intro k _
      have addr := pageAddr_toNat v k
      rw [Readable, readFault_device s (by omega) (by omega), devReg_ppuPage hi]
      exact regs (k % 8) (by omega)
    rw [memWrite_oamDma tw hf readable, oamDma_eq, foldl_dmaByte_ppu lo hi, devWrite_devEvents,
      List.append_assoc]
    rfl

end Sys2Proof.Machine
end

section
/-! PROOF. The statements of spec 30 on the encoding. Each instruction is tied once to the row of its opcode: what that
row builds from the bytes after the opcode, and how what it builds is written (`rowForm`). Decoding an encoding and
encoding what was decoded both follow from that. -/

namespace Sys2Proof

open Sys2Proof.Machine (mkWord hiByte loByte)

/-! ## The row of an instruction (30 R70, R72, R74) -/

/-- The instruction belongs to the row of opcode `op`, whose instructions are `len` bytes long. The row is one
instruction, or one for every operand byte, or one for every operand word, low byte first; it says what the row
builds from two bytes and how each of its instructions is written. -/
inductive RowForm (op : Byte) : Nat → Instr → Prop where
  | bare {i : Instr} (build : ∀ b1 b2, assemble op b1 b2 = i) (written : encode i = [op]) : RowForm op 1 i
  | byte {instr : Byte → Instr} (n : Byte) (build : ∀ b1 b2, assemble op b1 b2 = instr b1)
      (written : ∀ n, encode (instr n) = [op, n]) : RowForm op 2 (instr n)
  | word {instr : Word → Instr} (addr : Word) (build : ∀ b1 b2, assemble op b1 b2 = instr (mkWord b2 b1))
      (written : ∀ addr, encode (instr addr) = [op, loByte addr, hiByte addr]) : RowForm op 3 (instr addr)

/-- The case split over the instructions: the length of its row fixes the form of each. (The opcode is reduced to
its literal first, as the table's index is evaluated only when no operand stands in it.) -/
theorem rowForm (i : Instr) : RowForm (codeOf i) (opLength (codeOf i)) i := by
  cases i <;> simp only [codeOf] <;> constructor <;> intros <;> rfl

/-- The case split over the opcode map, by row and column: no two entries build one instruction (30 R73). -/
theorem codeOf_build {row column : Nat} (hr : row < 16) (hc : column < 16) (b1 b2 : Byte) :
    codeOf (((opRowsOf row).getD column opRowPastEnd).build b1 b2) = BitVec.ofNat 8 (16 * row + column) := by
  interval_cases row <;> interval_cases column <;> rfl

theorem codeOf_assemble (op b1 b2 : Byte) : codeOf (assemble op b1 b2) = op := by
  have row : op.toNat / 16 < 16 := by omega
  have column : op.toNat % 16 < 16 := by omega
  rw [assemble, opRow, codeOf_build row column, Nat.div_add_mod, BitVec.ofNat_toNat, BitVec.setWidth_eq]

variable {op : Byte} {len : Nat} {i : Instr}

theorem RowForm.length_encode (f : RowForm op len i) : (encode i).length = len := by
  rcases f with ⟨build, written⟩ | ⟨n, build, written⟩ | ⟨addr, build, written⟩ <;>
    simp [written]

/-- What an instruction is written as, its row builds the instruction from. -/
theorem RowForm.decode_encode (f : RowForm op len i) (hlen : opLength op = len) (rest : List Byte) :
    decode (encode i ++ rest) = .ok (i, rest) := by
  rcases f with ⟨build, written⟩ | ⟨n, build, written⟩ | ⟨addr, build, written⟩ <;>
    simp [written, decode, hlen, build]

/-- What a row builds is written as the bytes it was built from. -/
theorem RowForm.encode_assemble (f : RowForm op len i) (b1 b2 : Byte) :
    encode (assemble op b1 b2) = [op, b1, b2].take len := by
  rcases f with ⟨build, written⟩ | ⟨n, build, written⟩ | ⟨addr, build, written⟩ <;>
    simp [build, written]

/-! ## Encoding and decoding (30 R73, R77) -/

theorem length_encode (i : Instr) : (encode i).length = opLength (codeOf i) := (rowForm i).length_encode

theorem decode_encode (i : Instr) (rest : List Byte) : decode (encode i ++ rest) = .ok (i, rest) :=
  (rowForm i).decode_encode rfl rest

theorem encode_assemble (op b1 b2 : Byte) : encode (assemble op b1 b2) = [op, b1, b2].take (opLength op) := by
  have form := rowForm (assemble op b1 b2)
  rw [codeOf_assemble] at form
  exact form.encode_assemble b1 b2

/-- The opcode of what decodes is the first byte of the string. -/
theorem codeOf_of_decode {bytes rest : List Byte} (h : decode (op :: bytes) = .ok (i, rest)) : codeOf i = op := by
  simp only [decode] at h
  split at h <;> cases h <;> exact codeOf_assemble ..

/-- Decoding loses no byte. -/
theorem encode_of_decode {bytes rest : List Byte} (h : decode bytes = .ok (i, rest)) : encode i ++ rest = bytes := by
  obtain _ | ⟨op, bytes⟩ := bytes
  · cases h
  · simp only [decode] at h
    split at h <;> cases h <;> simp [encode_assemble, *]

/-- Settles O15, from the form of each instruction's row. -/
theorem decodingAnEncodingGivesTheInstruction : Obligations.DecodingAnEncodingGivesTheInstruction :=
  fun i rest _ => decode_encode i rest

/-- Settles O16: three bytes always decode, and what decodes is written as it was read. -/
theorem everyOpcodeDecodesAndEncodesBack : Obligations.EveryOpcodeDecodesAndEncodesBack := by
  intro op b1 b2
  obtain ⟨i, rest, decoded⟩ : ∃ i rest, decode [op, b1, b2] = .ok (i, rest) := ⟨_, _, decode_three op b1 b2 []⟩
  have code : codeOf i = op := codeOf_of_decode decoded
  refine ⟨i, rest, decoded, encode_of_decode decoded, ?_, ?_⟩
  · rw [length_encode, code]
  · rw [opcodeOf_eq, code]

/-- Settles O14: the strings are encodings, and the refused one and the table words are evaluated. -/
theorem wordsOfTheOpcodeMapDecode : Obligations.WordsOfTheOpcodeMapDecode :=
  ⟨decode_encode (.ldaImm 0x7F) [], decode_encode (.staAbs 0x0200) [0xEA], decode_encode (.jmpInd 0x0120) [],
    decode_encode (.bne 0xFA) [], decode_encode .brk [0xEA], decode_encode .jam02 [],
    decode_encode (.usbcImm 0x01) [], decode_encode (.shxAby 0x12F0) [], by decide, by decide, by decide⟩

end Sys2Proof
end

section
/-! PROOF. The statements of spec 40: effective addresses, the one byte a storing instruction changes, and the
fetch of an instruction from plain memory. Where an instruction stores is read off its shape (`Shape.storeAddr`),
so that its frame is proved once, for all of them, and the lists of forms are only compared with the shapes. -/

namespace Sys2Proof.Machine

open Sys2Proof.Forms

variable {s t : State}

/-! ## Effective addresses (40 R95-R101) -/

/-- Indexing a 16-bit base wraps modulo `2^16` (40 R98, R101). -/
theorem add_zext16_toNat (base : Word) (index : Byte) :
    (base + zext16 index).toNat = (base.toNat + index.toNat) % 65536 := by
  rw [BitVec.toNat_add, zext16_toNat]

/-- Indexing in zero page wraps there (40 R96, R97). -/
theorem zext16_add_toNat (n index : Byte) : (zext16 (n + index)).toNat = (n.toNat + index.toNat) % 256 := by
  rw [zext16_toNat, BitVec.toNat_add]

/-- The page-cross flag compares page numbers (40 R98, R101). -/
theorem pageCross_iff (m : Mode) (s : State) :
    pageCross m s = true ↔ (baseAddr m s).toNat / 256 ≠ (effAddr m s).toNat / 256 := by
  rw [pageCross, bne_iff_ne, ← hiByte_toNat, ← hiByte_toNat, ne_eq, ne_eq, BitVec.toNat_inj]

/-- Settles O17: each mode's sum wraps as its width says, and the flag compares the pages of base and sum. -/
theorem effectiveAddresses : Obligations.EffectiveAddresses := by
  intro s n p w
  have abx := add_zext16_toNat w s.x
  have aby := add_zext16_toNat w s.y
  have izy := add_zext16_toNat (zpPointer n s) s.y
  refine ⟨zext16_toNat n, zext16_add_toNat n s.x, zext16_add_toNat n s.y, rfl, abx, aby, rfl, izy,
    ⟨_, _, memRead_zeroPage p s, memRead_zeroPage (p + 1) s, mkWord_toNat _ _⟩, ?_, ?_, ?_⟩
  · rw [← abx]; exact pageCross_iff (.abx w) s
  · rw [← aby]; exact pageCross_iff (.aby w) s
  · rw [← izy]; exact pageCross_iff (.izy n) s

/-! ## The frame of a store (40 R104, R105; 46 R225-R228) -/

/-- The address of the one bus write of a shape: the effective address of its mode, or an unstable store's own,
computed from the value it stores; none where there is no such write. -/
def Shape.storeAddr (s : State) : Shape → Option Word
  | .store m _ | .rmw m _ _ => some (effAddr m s)
  | .unstable _ m pre reg =>
    let u := pre (advance (modeLength m) s)
    some (shAddr m (reg u &&& shHigh m u) u)
  | .read _ _ | .acc _ _ | .implied _ _ | .branch _ _ | .jump _ | .jumpIndirect _ | .call _ | .brk | .lock => none

/-- What stores does not push: its own effect writes registers and flags alone. -/
theorem effect_eq_withCpu_of_storeAddr {i : Instr} {addr : Word} (hi : (shapeOf i).storeAddr s = some addr)
    (b r : Byte) (w : Word) (u : State) : ∃ v, (shapeOf i).effect b r w u = withCpu v u := by
  have hp : pushes i = false := by
    rw [Bool.eq_false_iff]
    intro hp
    obtain ⟨f, hs⟩ | ⟨-, call, hs⟩ | ⟨-, hs⟩ := shape_of_pushes hp <;> exact nomatch hs ▸ hi
  obtain ⟨v, -, hv⟩ := effect_eq_withCpu hp b r w u
  exact ⟨v, hv⟩

theorem memKey_afterRead (addr other : Word) (s : State) : memKey (afterRead addr s) other = memKey s other := by
  simp only [memKey, cartKey, afterRead_mapper, afterRead_prgSize]

/-- A storing instruction that goes on changes no byte but the one its shape's address selects. -/
theorem exec_read_other {i : Instr} {addr : Word} {key : Nat} (h : exec i s = .next t)
    (hi : (shapeOf i).storeAddr s = some addr) (hk : memKey s addr ≠ some key) :
    t.mem.read key = s.mem.read key := by
  have effect := effect_eq_withCpu_of_storeAddr hi
  rw [exec_eq_run] at h
  generalize shapeOf i = sh at effect h hi
  cases sh with
  | store m value =>
    cases hi
    obtain ⟨-, rfl⟩ := storeInstr_eq_next.1 h
    exact afterWrite_read_other _ _ (s := advance (modeLength m) s) hk
  | rmw m result post =>
    cases hi
    obtain ⟨-, -, rfl⟩ := rmwInstr_eq_next.1 h
    generalize readByte _ s = b, result _ _ = r
    obtain ⟨v, hv⟩ := effect b r 0 (afterWrite (writeCycle (rmwCost m) s) (effAddr m s) r
      (advance (modeLength m) (afterRead (effAddr m s) s)))
    rw [Shape.effect] at hv
    rw [charge_mem, hv]
    have hk' : memKey (advance (modeLength m) (afterRead (effAddr m s) s)) (effAddr m s) ≠ some key := by
      rwa [memKey_advance, memKey_afterRead]
    exact (afterWrite_read_other _ r hk').trans (by rw [advance_mem, afterRead_mem])
  | unstable mnemonic m pre reg =>
    cases hi
    obtain ⟨-, rfl⟩ := (shInstr_eq_next (mnemonic := mnemonic) rfl).1 h
    obtain ⟨v, hv⟩ := effect 0 0 0 (advance (modeLength m) s)
    rw [Shape.effect] at hv
    rw [hv] at hk ⊢
    exact afterWrite_read_other _ _ (s := withCpu v (advance (modeLength m) s)) hk
  | _ => exact nomatch hi

/-- Every storing form stores at the effective address of its mode: form by form, the shape says so. -/
theorem storingForms_storeAddr (s : State) (n : Byte) (w : Word) :
    (storingForms n w).Forall fun f => (shapeOf f.instr).storeAddr s = some (effAddr f.mode s) := by
  simp only [storingForms, staForms, stxForms, styForms, saxForms, incForms, decForms, aslForms, lsrForms, rolForms,
    rorForms, sloForms, rlaForms, sreForms, rraForms, dcpForms, iscForms, List.forall_append, List.Forall]
  repeat' apply And.intro
  all_goals rfl

/-- The frame of an unstable store, when each of its forms stores at its own address. -/
theorem shFrame_of_storeAddr {forms : Byte → Word → List Form} {reg : State → Byte}
    (h : ∀ s n w, (forms n w).Forall fun f => (shapeOf f.instr).storeAddr s =
      some (shAddr f.mode (reg s &&& (hiByte (baseAddr f.mode s) + 1)) s)) : ShFrame forms reg :=
  fun s _ n w f hf he _ hk => exec_read_other he (List.forall_iff_forall_mem.1 (h s n w) f hf) hk

/-- Settles O12, from the frame of every storing instruction and the address each form stores at. -/
theorem storesChangeOneByte : Obligations.StoresChangeOneByte := by
  refine ⟨fun s t n w f hf h key hk => ?_, shFrame_of_storeAddr fun s n w => ⟨rfl, rfl⟩,
    shFrame_of_storeAddr fun s n w => rfl, shFrame_of_storeAddr fun s n w => rfl,
    shFrame_of_storeAddr fun s n w => rfl⟩
  exact exec_read_other h (List.forall_iff_forall_mem.1 (storingForms_storeAddr s n w) f hf) hk

/-! ## Fetching from plain memory (40 R90) -/

/-- At a quiet boundary the tick fetches at PC and executes (60 R252, R253). -/
theorem step_quiet (h : QuietBoundary s) : step s = fetchExec s := by
  obtain ⟨halted, stall, nmi, irq⟩ := h
  have masked : (!s.i && s.irqLevel) = false := by
    obtain h | h := irq <;> simp [h]
  have polled : poll s = .next s := by simp [poll, nmi, masked]
  simp [step, tick, boundaryTick, halted, stall, polled]

/-- A byte of plain memory is fetched by a read that changes nothing. -/
theorem memRead_of_standsAt {b : Byte} {rest : List Byte} {addr : Word} (h : StandsAt (b :: rest) addr s) :
    memRead addr s = .next (b, s) := by
  obtain ⟨⟨key, hk, rfl⟩, -⟩ := h
  exact memRead_plain hk

/-- Fetching reads the bytes one by one, as many as the decoder takes. -/
theorem fetchInstr_of_standsAt {bytes : List Byte} {i : Instr} (h : StandsAt bytes s.pc s)
    (hd : decode bytes = .ok (i, [])) : fetchInstr s = .next (i, s) := by
  obtain _ | ⟨op, rest⟩ := bytes
  · cases hd
  · have read0 := memRead_of_standsAt h
    have operand := h.2
    simp only [decode] at hd
    split at hd
    case h_1 hlen =>
      cases hd
      simp only [fetchInstr, read0, andThen_next, hlen, if_true]
    case h_2 b1 more hlen =>
      cases hd
      have read1 := memRead_of_standsAt operand
      simp only [fetchInstr, read0, read1, andThen_next, hlen, Nat.reduceEqDiff, if_true, if_false]
    case h_3 b1 b2 more hlen =>
      cases hd
      have read1 := memRead_of_standsAt operand
      have read2 := memRead_of_standsAt operand.2
      rw [BitVec.add_assoc, show (1 : Word) + 1 = 2 from rfl] at read2
      simp only [fetchInstr, read0, read1, read2, andThen_next, hlen, Nat.reduceEqDiff, if_false]
    case h_4 => cases hd

/-- Settles O48: a quiet tick fetches what the bytes decode to, in a state the fetch leaves as it was. -/
theorem tickRunsTheDecodedInstruction : Obligations.TickRunsTheDecodedInstruction := by
  intro s bytes i quiet stands decoded _
  rw [step_quiet quiet, fetchExec, fetchInstr_of_standsAt stands decoded, andThen_next]

end Sys2Proof.Machine
end

section
/-! PROOF. The statements of spec 41: loads, stores and transfers. A list of forms is compared with the machine once,
form by form (`IsReadForm`, `IsStoreForm`): the opcode, the shape and the cost. The rule of a whole list then follows
from what the shape does, so that nothing is proved again for each form. -/

namespace Sys2Proof.Machine

open Sys2Proof.Forms

variable {s : State} {m : Mode} {forms : Byte → Word → List Form}

/-! ## N and Z (00 R8) -/

/-- Bit 7 of a byte, as arithmetic. -/
theorem bit_seven (b : Byte) : bit 7 b = decide (128 ≤ b.toNat) :=
  (BitVec.msb_eq_getLsbD_last b).symm.trans (BitVec.msb_eq_decide b)

/-- The machine's `SetNZ` is the statements' one. -/
theorem setNZ_eq_setZeroNegative : setNZ = setZeroNegative := by
  funext b s
  rw [setNZ, setZeroNegative, bit_seven]
  rfl

/-! ## Read-class instructions (40 R103, R106) -/

theorem afterOperand_advance (m : Mode) (len : Word) (s : State) :
    afterOperand m (advance len s) = advance len (afterOperand m s) := by
  cases m
  case imm => rfl
  all_goals exact afterRead_advance _ len s

/-- An operand that cannot be read has a bus fault, and fetching it answers that fault. -/
theorem fetchOperand_of_not_readable (h : ¬ OperandReadable m s) :
    ∃ e, readFault (effAddr m s) s = some e ∧ fetchOperand m s = .fault e := by
  cases m
  case imm => exact absurd trivial h
  all_goals
    obtain ⟨e, fault⟩ := Option.ne_none_iff_exists'.1 h
    exact ⟨e, fault, by simp only [fetchOperand, memRead, fault]⟩

/-- A read-class instruction whose operand cannot be read ends the tick in the bus fault. -/
theorem readInstr_of_not_readable (f : Byte → State → State) (h : ¬ OperandReadable m s) :
    ∃ e, readFault (effAddr m s) s = some e ∧ readInstr m f s = .fault e := by
  obtain ⟨e, fault, fetch⟩ := fetchOperand_of_not_readable (mt (operandReadable_advance m (modeLength m) s).1 h)
  rw [effAddr_advance, readFault_advance] at fault
  exact ⟨e, fault, by simp only [readInstr, dummyRead_none, andThen_next, fetch, andThen_fault]⟩

/-- Only a mode that indexes a 16-bit base crosses a page (40 R98, R101). -/
theorem pageCross_eq_indexesBase_and (m : Mode) (s : State) : pageCross m s = (indexesBase m && pageCross m s) := by
  cases m
  case abx | aby | izy => rfl
  all_goals exact bne_self_eq_false _

/-- The machine runs a form as a read-class instruction with effect `f`: at the form's opcode, in its mode, at its
base cost, with one cycle more for a page crossing exactly where the form pays it. -/
structure IsReadForm (f : Byte → State → State) (form : Form) : Prop where
  opcode : codeOf form.instr = form.op
  shape : shapeOf form.instr = .read form.mode f
  base : readBase form.mode = form.base
  paysCross : indexesBase form.mode = form.plusP

theorem IsReadForm.readCost_eq {f : Byte → State → State} {form : Form} (h : IsReadForm f form) (s : State) :
    readCost form.mode s = form.cost s := by
  rw [readCost, pageCross_eq_indexesBase_and, h.base, h.paysCross, Form.cost]

/-- The rule of a list of read-class forms: each form is one on the machine, and the effect may as well be applied
after the cycles are charged. -/
theorem readRule_of_isRead {f eff : Byte → State → State} (isRead : ∀ n w, (forms n w).Forall (IsReadForm f))
    (charged : ∀ b cost u, charge cost (f b u) = eff b (charge cost u)) : ReadRule forms eff := by
  intro s n w form mem
  have read := List.forall_iff_forall_mem.1 (isRead n w) form mem
  have run : exec form.instr s = readInstr form.mode f s := by rw [exec_eq_run, read.shape, Shape.run]
  refine ⟨by rw [opcodeOf_eq, read.opcode], fun readable => ?_, fun unreadable => ?_⟩
  · have next := readInstr_eq_next (f := f).2 ⟨readable, rfl⟩
    rw [run, next, charged, read.readCost_eq, afterOperand_advance]
    rfl
  · rw [run]
    exact readInstr_of_not_readable f unreadable

/-! ## Store-class instructions (40 R105, R106) -/

/-- A store whose write faults ends the tick in that fault. -/
theorem storeInstr_of_writeFault {value : State → Byte} {e : Fault}
    (h : writeFault (effAddr m s) (value (advance (modeLength m) s)) s = some e) :
    storeInstr m value s = .fault e := by
  simp only [storeInstr, dummyRead_none, andThen_next, memWrite, effAddr_advance, writeFault_advance, h, andThen_fault]

/-- The machine runs a form as a store-class instruction of `value`: at the form's opcode, in its mode, at its cost. -/
structure IsStoreForm (value : State → Byte) (form : Form) : Prop where
  opcode : codeOf form.instr = form.op
  shape : shapeOf form.instr = .store form.mode value
  cost : storeCost form.mode = form.base

/-- The rule of a list of store-class forms: each form is one on the machine, and the value does not depend on PC. -/
theorem storeRule_of_isStore {value : State → Byte} (isStore : ∀ n w, (forms n w).Forall (IsStoreForm value))
    (advanced : ∀ len u, value (advance len u) = value u) : StoreRule forms value := by
  intro s n w form mem
  have store := List.forall_iff_forall_mem.1 (isStore n w) form mem
  have run : exec form.instr s = storeInstr form.mode value s := by rw [exec_eq_run, store.shape, Shape.run]
  rw [run, opcodeOf_eq]
  refine ⟨store.opcode, fun writable => ?_, fun e fault => storeInstr_of_writeFault ?_⟩
  · rw [storeInstr_eq_next.2 ⟨by rwa [advanced], rfl⟩, advanced, afterWrite_advance, store.cost]
    rfl
  · rwa [advanced]

/-! ## One-byte instructions (40 R92) -/

/-- The rule of a one-byte instruction that makes no access: its effect may as well be applied after the cycles are
charged. -/
theorem oneByteRule_of_implied {op : Byte} {i : Instr} {cost : Nat} {f eff : State → State} (opcode : codeOf i = op)
    (shape : shapeOf i = .implied cost f) (charged : ∀ u, charge cost (f u) = eff (charge cost u)) :
    OneByteRule op i cost eff := by
  refine ⟨by rw [opcodeOf_eq, opcode], fun s => ?_⟩
  rw [exec_eq_run, shape, Shape.run, impliedInstr, charged]
  rfl

/-! ## Loads, stores and transfers (41 R110-R121) -/

theorem ldaForms_isRead (n : Byte) (w : Word) : (ldaForms n w).Forall (IsReadForm loadA) := by
  repeat' constructor

theorem ldxForms_isRead (n : Byte) (w : Word) : (ldxForms n w).Forall (IsReadForm loadX) := by
  repeat' constructor

theorem ldyForms_isRead (n : Byte) (w : Word) : (ldyForms n w).Forall (IsReadForm loadY) := by
  repeat' constructor

theorem staForms_isStore (n : Byte) (w : Word) : (staForms n w).Forall (IsStoreForm fun t => t.a) := by
  repeat' constructor

theorem stxForms_isStore (n : Byte) (w : Word) : (stxForms n w).Forall (IsStoreForm fun t => t.x) := by
  repeat' constructor

theorem styForms_isStore (n : Byte) (w : Word) : (styForms n w).Forall (IsStoreForm fun t => t.y) := by
  repeat' constructor

/-- Settles O18: every form is a read-class instruction of the machine, which loads the register. -/
theorem loadsWriteTheirRegister : Obligations.LoadsWriteTheirRegister := by
  rw [Obligations.LoadsWriteTheirRegister, ← setNZ_eq_setZeroNegative]
  exact ⟨readRule_of_isRead ldaForms_isRead fun _ _ _ => rfl, readRule_of_isRead ldxForms_isRead fun _ _ _ => rfl,
    readRule_of_isRead ldyForms_isRead fun _ _ _ => rfl⟩

/-- Settles O19: every form is a store-class instruction of the machine, which stores the register. -/
theorem storesWriteTheirRegister : Obligations.StoresWriteTheirRegister :=
  ⟨storeRule_of_isStore staForms_isStore fun _ _ => rfl, storeRule_of_isStore stxForms_isStore fun _ _ => rfl,
    storeRule_of_isStore styForms_isStore fun _ _ => rfl⟩

/-- Settles O20: each transfer is an implied-mode instruction of the machine with the copy as its effect. -/
theorem transfersCopyRegisters : Obligations.TransfersCopyRegisters := by
  rw [Obligations.TransfersCopyRegisters, ← setNZ_eq_setZeroNegative]
  exact ⟨oneByteRule_of_implied rfl rfl fun _ => rfl, oneByteRule_of_implied rfl rfl fun _ => rfl,
    oneByteRule_of_implied rfl rfl fun _ => rfl, oneByteRule_of_implied rfl rfl fun _ => rfl,
    oneByteRule_of_implied rfl rfl fun _ => rfl, oneByteRule_of_implied rfl rfl fun _ => rfl⟩

end Sys2Proof.Machine
end

section
/-! PROOF. The statements of spec 42: arithmetic, logic, compare, increment and decrement. The machine's nine-bit adder
is tied once to exact arithmetic, unsigned and signed, and SBC is that adder on the complement; the lists of forms are
compared with the machine as those of spec 41 are, read-modify-write forms by `IsRmwForm`. -/

namespace Sys2Proof.Machine

open Sys2Proof.Forms

variable {s : State} {m : Mode} {forms : Byte → Word → List Form}

/-! ## Read-modify-write instructions on memory (40 R104, R106) -/

section ReadModifyWrite

variable {result : Byte → Bool → Byte} {post : Byte → Byte → State → State} {e : Fault}

/-- A read-modify-write instruction whose read faults ends the tick in that fault. -/
theorem rmwInstr_of_readFault (h : readFault (effAddr m s) s = some e) : rmwInstr m result post s = .fault e := by
  simp only [rmwInstr, dummyRead_none, andThen_next, memRead, effAddr_advance, readFault_advance, h, andThen_fault]

/-- A read-modify-write instruction whose read goes on and whose write faults ends the tick in the write's fault. -/
theorem rmwInstr_of_writeFault (read : readFault (effAddr m s) s = none)
    (write : writeFault (effAddr m s) (result (readByte (effAddr m s) s) s.c) (afterRead (effAddr m s) s) = some e) :
    rmwInstr m result post s = .fault e := by
  simp only [rmwInstr, dummyRead_none, dummyWrite_none, andThen_next, memRead, memWrite, effAddr_advance,
    readFault_advance, readByte_advance, afterRead_advance, writeFault_advance, advance_c, read, write, andThen_fault]

/-- The machine runs a form as a read-modify-write instruction on memory that writes `result` and goes on with `post`:
at the form's opcode, in its mode, at its cost. -/
structure IsRmwForm (result : Byte → Bool → Byte) (post : Byte → Byte → State → State) (form : Form) : Prop where
  opcode : codeOf form.instr = form.op
  shape : shapeOf form.instr = .rmw form.mode result post
  cost : rmwCost form.mode = form.base

/-- The rule of a list of read-modify-write forms: each form is one on the machine, and what follows the write may as
well be applied after the cycles are charged. -/
theorem rmwRule_of_isRmw {eff : Byte → Byte → State → State}
    (isRmw : ∀ n w, (forms n w).Forall (IsRmwForm result post))
    (charged : ∀ v r cost u, charge cost (post v r u) = eff v r (charge cost u)) : RmwRule forms result eff := by
  intro s n w form mem
  have rmw := List.forall_iff_forall_mem.1 (isRmw n w) form mem
  have run : exec form.instr s = rmwInstr form.mode result post s := by rw [exec_eq_run, rmw.shape, Shape.run]
  refine ⟨by rw [opcodeOf_eq, rmw.opcode], ?_⟩
  rintro _ _ _ rfl rfl rfl
  rw [run]
  refine ⟨fun readable writable => ?_, fun e => rmwInstr_of_readFault, fun e => rmwInstr_of_writeFault⟩
  rw [rmwInstr_eq_next.2 ⟨readable, writable, rfl⟩, charged, afterWrite_advance, rmw.cost]
  rfl

end ReadModifyWrite

/-! ## Read-class instructions with an immediate operand alone (40 R94, R103) -/

/-- The rule of a read-class instruction whose only mode is immediate: that of its one form, readable in every state. -/
theorem immediateRule_of_isRead {op : Byte} {i : Byte → Instr} {f eff : Byte → State → State}
    (isRead : ∀ n, IsReadForm f ⟨op, 2, false, i n, .imm n⟩)
    (charged : ∀ b cost u, charge cost (f b u) = eff b (charge cost u)) : ImmediateRule op i eff := by
  intro s n
  have rule := readRule_of_isRead (forms := fun n _ => [⟨op, 2, false, i n, .imm n⟩]) (fun n _ => isRead n) charged
  obtain ⟨opcode, next, -⟩ := rule s n 0 _ (List.mem_singleton.2 rfl)
  exact ⟨opcode, next trivial⟩

/-! ## The adder (42 R130) -/

/-- The nine bits hold the exact sum: it is at most 511. -/
theorem sum9_toNat (a m : Byte) (c : Bool) : (sum9 a m c).toNat = exactSum a m c := by
  have ha := a.isLt
  have hm := m.isLt
  have hc := c.toNat_le
  simp only [sum9, exactSum, BitVec.toNat_add, BitVec.toNat_setWidth, BitVec.toNat_ofBool]
  omega

/-- The adder's byte is the exact sum modulo 256. -/
theorem sumByte_eq (a m : Byte) (c : Bool) : sumByte a m c = BitVec.ofNat 8 (exactSum a m c) := by
  apply BitVec.eq_of_toNat_eq
  rw [sumByte, BitVec.toNat_setWidth, sum9_toNat, BitVec.toNat_ofNat]

/-- The adder's carry says that the exact sum reaches 256. -/
theorem sumCarry_eq (a m : Byte) (c : Bool) : sumCarry a m c = decide (256 ≤ exactSum a m c) := by
  rw [sumCarry, ← sum9_toNat]
  exact (BitVec.msb_eq_getLsbD_last _).symm.trans (BitVec.msb_eq_decide _)

/-- V is set when the operands have one sign bit and the result the other (42 R130). -/
theorem sumOverflow_iff_signs (a m : Byte) (c : Bool) :
    sumOverflow a m c = true ↔
      (128 ≤ a.toNat ↔ 128 ≤ m.toNat) ∧ ¬ (128 ≤ a.toNat ↔ 128 ≤ (sumByte a m c).toNat) := by
  have bits : sumOverflow a m c = (!(bit 7 a ^^ bit 7 m) && (bit 7 a ^^ bit 7 (sumByte a m c))) := by
    simp [sumOverflow, bit]
  simp [bits, bit_seven]

/-- The adder's overflow says that the exact two's-complement sum lies outside -128..127. -/
theorem sumOverflow_eq (a m : Byte) (c : Bool) :
    sumOverflow a m c = (decide (exactSignedSum a m c < -128) || decide (127 < exactSignedSum a m c)) := by
  have ha := a.isLt
  have hm := m.isLt
  have hc := c.toNat_le
  have sum : (sumByte a m c).toNat = (a.toNat + m.toNat + c.toNat) % 256 := by
    rw [sumByte_eq, BitVec.toNat_ofNat, exactSum]
  have carry : c.toInt = c.toNat := by cases c <;> rfl
  rw [Bool.eq_iff_iff, sumOverflow_iff_signs, sum, Bool.or_eq_true, decide_eq_true_iff, decide_eq_true_iff,
    exactSignedSum, carry, BitVec.toInt_eq_toNat_cond, BitVec.toInt_eq_toNat_cond]
  split <;> split <;> omega

/-- `Add(m)` as the statements write it: binary addition, whatever D holds. -/
theorem adc_eq_addExactly : adc = addExactly := by
  funext m s
  rw [adc, addWithCarry, sumByte_eq, sumCarry_eq, sumOverflow_eq, setNZ_eq_setZeroNegative]
  rfl

/-! ## Subtraction: the adder on the complement (42 R132) -/

/-- The complement of a byte is one below its negative, with no exception at -128. -/
theorem toInt_complement (m : Byte) : (~~~m).toInt = -m.toInt - 1 := by
  have hm := m.isLt
  rw [BitVec.toInt_eq_toNat_cond, BitVec.toInt_eq_toNat_cond, BitVec.toNat_not]
  split <;> split <;> omega

/-- The two's-complement sum with the complement is the difference less the borrow. -/
theorem exactSignedSum_complement (a m : Byte) (c : Bool) :
    exactSignedSum a (~~~m) c = a.toInt - m.toInt - ((if c then 0 else 1 : Nat) : Int) := by
  rw [exactSignedSum, toInt_complement]
  cases c <;> simp <;> omega

/-- The sum with the complement carries out exactly when no borrow is needed. -/
theorem le_exactSum_complement (a m : Byte) (c : Bool) :
    256 ≤ exactSum a (~~~m) c ↔ m.toNat + (if c then 0 else 1) ≤ a.toNat := by
  have hm := m.isLt
  cases c <;> simp [exactSum] <;> omega

/-- The sum with the complement is, modulo 256, the difference less the borrow. -/
theorem ofNat_exactSum_complement (a m : Byte) (c : Bool) :
    BitVec.ofNat 8 (exactSum a (~~~m) c) = a - m - BitVec.ofNat 8 (if c then 0 else 1) := by
  rw [exactSum, BitVec.ofNat_add, BitVec.ofNat_add, BitVec.ofNat_toNat, BitVec.ofNat_toNat, BitVec.setWidth_eq,
    BitVec.setWidth_eq, BitVec.not_eq_neg_add]
  cases c
  case false =>
    change a + (-m - 1) + 0 = a - m - 1
    ring
  case true =>
    change a + (-m - 1) + 1 = a - m - 0
    ring

/-- `Add(~m)` as the statements write it: subtraction with the borrow `1 - C`. -/
theorem sbc_eq_subtractExactly : sbc = subtractExactly := by
  funext m s
  have add : sbc m s = addExactly (~~~m) s := by rw [← adc_eq_addExactly]; rfl
  simp only [add, addExactly, exactSignedSum_complement, le_exactSum_complement, ofNat_exactSum_complement,
    subtractExactly]

/-! ## Comparison (42 R137) -/

/-- `Compare(reg, m)` as the statements write it: the difference is zero exactly when the two are equal. -/
theorem compareWith_eq_compareExactly : compareWith = compareExactly := by
  funext reg m s
  have zero : reg - m = 0 ↔ reg = m := sub_eq_zero
  simp only [compareWith, setNZ_eq_setZeroNegative, setZeroNegative, compareExactly, zero, BitVec.le_def]

/-! ## The forms of spec 42 on the machine -/

theorem adcForms_isRead (n : Byte) (w : Word) : (adcForms n w).Forall (IsReadForm adc) := by
  repeat' constructor

theorem sbcForms_isRead (n : Byte) (w : Word) : (sbcForms n w).Forall (IsReadForm sbc) := by
  repeat' constructor

theorem andForms_isRead (n : Byte) (w : Word) : (andForms n w).Forall (IsReadForm andA) := by
  repeat' constructor

theorem oraForms_isRead (n : Byte) (w : Word) : (oraForms n w).Forall (IsReadForm oraA) := by
  repeat' constructor

theorem eorForms_isRead (n : Byte) (w : Word) : (eorForms n w).Forall (IsReadForm eorA) := by
  repeat' constructor

theorem bitForms_isRead (n : Byte) (w : Word) : (bitForms n w).Forall (IsReadForm bitTest) := by
  repeat' constructor

theorem cmpForms_isRead (n : Byte) (w : Word) : (cmpForms n w).Forall (IsReadForm cmpA) := by
  repeat' constructor

theorem cpxForms_isRead (n : Byte) (w : Word) : (cpxForms n w).Forall (IsReadForm cmpX) := by
  repeat' constructor

theorem cpyForms_isRead (n : Byte) (w : Word) : (cpyForms n w).Forall (IsReadForm cmpY) := by
  repeat' constructor

theorem incForms_isRmw (n : Byte) (w : Word) : (incForms n w).Forall (IsRmwForm incByte afterCount) := by
  repeat' constructor

theorem decForms_isRmw (n : Byte) (w : Word) : (decForms n w).Forall (IsRmwForm decByte afterCount) := by
  repeat' constructor

/-! ## The statements -/

/-- Settles O21: every form is a read-class instruction of the machine, whose adder is exact. -/
theorem adcAddsExactly : Obligations.AdcAddsExactly := by
  rw [Obligations.AdcAddsExactly, ← adc_eq_addExactly]
  exact readRule_of_isRead adcForms_isRead fun _ _ _ => rfl

/-- Settles O22: the complement of the operand goes through the adder of ADC, in the forms of SBC and in $EB's. -/
theorem sbcSubtractsExactly : Obligations.SbcSubtractsExactly := by
  rw [Obligations.SbcSubtractsExactly, ← sbc_eq_subtractExactly]
  exact ⟨readRule_of_isRead sbcForms_isRead fun _ _ _ => rfl,
    immediateRule_of_isRead (fun _ => ⟨rfl, rfl, rfl, rfl⟩) fun _ _ _ => rfl⟩

/-- Settles O23: the machine's operation is the statement's, with its own `SetNZ`. -/
theorem logicIntoAccumulator : Obligations.LogicIntoAccumulator := by
  rw [Obligations.LogicIntoAccumulator, ← setNZ_eq_setZeroNegative]
  exact ⟨readRule_of_isRead andForms_isRead fun _ _ _ => rfl, readRule_of_isRead oraForms_isRead fun _ _ _ => rfl,
    readRule_of_isRead eorForms_isRead fun _ _ _ => rfl⟩

/-- Settles O24: the flags are the operand's own bits and the test of `A & M`. -/
theorem bitTestsMemory : Obligations.BitTestsMemory :=
  readRule_of_isRead bitForms_isRead fun _ _ _ => rfl

/-- Settles O25: the three share one comparison, of their register. -/
theorem comparesSetCarryZeroNegative : Obligations.ComparesSetCarryZeroNegative := by
  rw [Obligations.ComparesSetCarryZeroNegative, ← compareWith_eq_compareExactly]
  exact ⟨readRule_of_isRead cmpForms_isRead fun _ _ _ => rfl, readRule_of_isRead cpxForms_isRead fun _ _ _ => rfl,
    readRule_of_isRead cpyForms_isRead fun _ _ _ => rfl⟩

/-- Settles O26: every form is a read-modify-write instruction of the machine, with `SetNZ` after its write. -/
theorem incAndDecOfMemory : Obligations.IncAndDecOfMemory := by
  rw [Obligations.IncAndDecOfMemory, ← setNZ_eq_setZeroNegative]
  exact ⟨rmwRule_of_isRmw incForms_isRmw fun _ _ _ _ => rfl, rmwRule_of_isRmw decForms_isRmw fun _ _ _ _ => rfl⟩

/-- Settles O27: each is an implied-mode instruction of the machine with the count as its effect. -/
theorem indexRegistersCount : Obligations.IndexRegistersCount := by
  rw [Obligations.IndexRegistersCount, ← setNZ_eq_setZeroNegative]
  exact ⟨oneByteRule_of_implied rfl rfl fun _ => rfl, oneByteRule_of_implied rfl rfl fun _ => rfl,
    oneByteRule_of_implied rfl rfl fun _ => rfl, oneByteRule_of_implied rfl rfl fun _ => rfl⟩

end Sys2Proof.Machine
end

section
/-! PROOF. The statements of spec 43: shifts and rotates. The machine's bit operations are tied once to arithmetic on
the byte; the memory forms are read-modify-write forms as those of spec 42 are, and the accumulator forms share one
rule. -/

namespace Sys2Proof.Machine

open Sys2Proof.Forms

/-! ## The shifted byte as arithmetic (43 R160-R163) -/

theorem flagByte_toNat (c : Bool) : (flagByte c).toNat = c.toNat := by
  cases c <;> rfl

/-- ASL doubles its operand modulo 256. -/
theorem aslByte_eq : aslByte = fun v _ => BitVec.ofNat 8 (2 * v.toNat) := by
  funext v _
  apply BitVec.eq_of_toNat_eq
  rw [aslByte, BitVec.toNat_shiftLeft, Nat.shiftLeft_eq, pow_one, mul_comm, BitVec.toNat_ofNat]

/-- LSR halves its operand. -/
theorem lsrByte_eq : lsrByte = fun v _ => BitVec.ofNat 8 (v.toNat / 2) := by
  funext v _
  have hv := v.isLt
  apply BitVec.eq_of_toNat_eq
  rw [lsrByte, BitVec.toNat_ushiftRight, Nat.shiftRight_one, BitVec.toNat_ofNat]
  omega

/-- ROL is `rotatedLeft`: C comes in at bit 0, which the shift leaves free. -/
theorem rolByte_eq_rotatedLeft : rolByte = rotatedLeft := by
  funext v c
  have shifted : (v <<< 1).toNat = (v.toNat % 2 ^ 7) <<< 1 := by
    rw [BitVec.toNat_shiftLeft, Nat.shiftLeft_eq, Nat.shiftLeft_eq]
    omega
  have hc := c.toNat_lt
  apply BitVec.eq_of_toNat_eq
  rw [rolByte, BitVec.toNat_or, shifted, flagByte_toNat, ← Nat.shiftLeft_add_eq_or_of_lt hc,
    Nat.shiftLeft_eq, rotatedLeft, BitVec.toNat_ofNat]
  omega

/-- ROR is `rotatedRight`: C comes in at bit 7, above the halved operand. -/
theorem rorByte_eq_rotatedRight : rorByte = rotatedRight := by
  funext v c
  have hv := v.isLt
  have hc := c.toNat_lt
  have half : v.toNat / 2 < 2 ^ 7 := by omega
  have carry : (flagByte c <<< 7).toNat = c.toNat <<< 7 := by cases c <;> rfl
  apply BitVec.eq_of_toNat_eq
  rw [rorByte, BitVec.toNat_or, BitVec.toNat_ushiftRight, Nat.shiftRight_one, carry, Nat.or_comm,
    ← Nat.shiftLeft_add_eq_or_of_lt half, Nat.shiftLeft_eq, rotatedRight, BitVec.toNat_ofNat]
  omega

/-! ## Accumulator-mode instructions (40 R93, R104) -/

/-- The rule of an accumulator-mode instruction: the byte and the flags may as well be written after the cycles are
charged. -/
theorem oneByteRule_of_acc {op : Byte} {i : Instr} {result : Byte → Bool → Byte}
    {post : Byte → Byte → State → State} {eff : State → State} (opcode : codeOf i = op)
    (shape : shapeOf i = .acc result post)
    (charged : ∀ u, charge 2 (post u.a (result u.a u.c) { u with a := result u.a u.c }) = eff (charge 2 u)) :
    OneByteRule op i 2 eff := by
  refine ⟨by rw [opcodeOf_eq, opcode], fun s => ?_⟩
  rw [exec_eq_run, shape, Shape.run, accInstr, charged]
  rfl

/-! ## The forms of spec 43 on the machine -/

theorem aslForms_isRmw (n : Byte) (w : Word) : (aslForms n w).Forall (IsRmwForm aslByte afterAsl) := by
  repeat' constructor

theorem lsrForms_isRmw (n : Byte) (w : Word) : (lsrForms n w).Forall (IsRmwForm lsrByte afterLsr) := by
  repeat' constructor

theorem rolForms_isRmw (n : Byte) (w : Word) : (rolForms n w).Forall (IsRmwForm rolByte afterAsl) := by
  repeat' constructor

theorem rorForms_isRmw (n : Byte) (w : Word) : (rorForms n w).Forall (IsRmwForm rorByte afterLsr) := by
  repeat' constructor

/-! ## The statement -/

/-- Settles O28: in memory and in A the machine's result is the arithmetic one, and C the bit shifted out. -/
theorem shiftsAndRotates : Obligations.ShiftsAndRotates := by
  rw [Obligations.ShiftsAndRotates, ← setNZ_eq_setZeroNegative, ← rolByte_eq_rotatedLeft, ← rorByte_eq_rotatedRight,
    ← aslByte_eq, ← lsrByte_eq]
  exact ⟨rmwRule_of_isRmw aslForms_isRmw fun _ _ _ _ => rfl, rmwRule_of_isRmw lsrForms_isRmw fun _ _ _ _ => rfl,
    rmwRule_of_isRmw rolForms_isRmw fun _ _ _ _ => rfl, rmwRule_of_isRmw rorForms_isRmw fun _ _ _ _ => rfl,
    oneByteRule_of_acc rfl rfl fun _ => by rw [aslByte_eq]; rfl,
    oneByteRule_of_acc rfl rfl fun _ => by rw [lsrByte_eq]; rfl,
    oneByteRule_of_acc rfl rfl fun _ => rfl, oneByteRule_of_acc rfl rfl fun _ => rfl⟩

end Sys2Proof.Machine
end

section
/-! PROOF. The statements of spec 44: branches, jumps, subroutines, BRK and RTI. What a branch, a jump, JSR and RTI
leave is said once each; that RTS and RTI undo JSR and BRK then turns on memory and S alone, which nothing else in
those instructions touches. -/

namespace Sys2Proof.Machine

open Sys2Proof.Forms

variable {s t : State} {addr : Word} {e : Fault}

/-! ## Branches (44 R170-R178) -/

theorem branchInstr_not_taken (n : Byte) (s : State) : branchInstr false n s = .next (finish 2 2 s) := rfl

/-- A taken branch costs one cycle more, and another when the target lies in another page than the next instruction. -/
theorem branchInstr_taken (n : Byte) (s : State) : branchInstr true n s =
    .next { finish 2 (if hiByte (s.pc + 2) = hiByte (branchTarget (s.pc + 2) n) then 3 else 4) s with
      pc := branchTarget (s.pc + 2) n } := by
  have cost : 2 + branchExtra true (s.pc + 2) n =
      if hiByte (s.pc + 2) = hiByte (branchTarget (s.pc + 2) n) then 3 else 4 := by
    simp only [branchExtra, bne_iff_ne, ne_eq, ite_not, if_true]
    split <;> rfl
  rw [← cost]
  rfl

/-- The rule of a branch: its opcode, and the flag its shape tests. -/
theorem branchRule_of_branch {op : Byte} {instr : Byte → Instr} {cond : State → Bool}
    (opcode : ∀ n, codeOf (instr n) = op) (shape : ∀ n, shapeOf (instr n) = .branch cond n) :
    BranchRule op instr cond := by
  intro s n
  have run : exec (instr n) s = branchInstr (cond s) n s := by rw [exec_eq_run, shape, Shape.run]
  refine ⟨by rw [opcodeOf_eq, opcode], fun fails => ?_, ?_⟩
  · rw [run, fails, branchInstr_not_taken]
  · rintro holds _ rfl
    rw [run, holds, branchInstr_taken]
    rfl

/-- Settles O29: the shape of each branch tests the flag of its rule. -/
theorem branchesFollowTheirFlag : Obligations.BranchesFollowTheirFlag := by
  refine ⟨?_, ?_, ?_, ?_, ?_, ?_, ?_, ?_⟩
  all_goals exact branchRule_of_branch (fun _ => rfl) fun _ => rfl

/-! ## Jumps (44 R179, R180; 40 R99) -/

/-- Reading plain memory never faults, answers the byte at the key and changes nothing. -/
theorem read_of_memKey {key : Nat} (h : memKey s addr = some key) :
    readFault addr s = none ∧ readByte addr s = s.mem.read key ∧ afterRead addr s = s := by
  obtain ⟨readable, answer⟩ := memRead_eq_next.1 (memRead_plain h)
  obtain ⟨byte, state⟩ := Prod.mk.inj answer
  exact ⟨readable, byte.symm, state.symm⟩

/-- The pointer's second byte: one further, within the pointer's page (40 R99). -/
theorem pointerHigh_toNat (w : Word) :
    (mkWord (hiByte w) (loByte w + 1)).toNat = w.toNat / 256 * 256 + (w.toNat + 1) % 256 := by
  rw [mkWord_toNat, BitVec.toNat_add, hiByte_toNat, loByte_toNat, show (1 : Byte).toNat = 1 from rfl]
  omega

theorem jmpIndInstr_of_fault_low (h : readFault addr s = some e) : jmpIndInstr addr s = .fault e := by
  rw [jmpIndInstr, memRead_of_fault (by rwa [readFault_advance]), andThen_fault]

/-- The read of the low byte does not change whether that of the high byte faults. -/
theorem jmpIndInstr_of_fault_high (readable : Readable addr s)
    (h : readFault (mkWord (hiByte addr) (loByte addr + 1)) s = some e) : jmpIndInstr addr s = .fault e := by
  have high : readFault (mkWord (hiByte addr) (loByte addr + 1)) (afterRead addr (advance 3 s)) = some e := by
    rwa [readFault_afterRead, readFault_advance]
  rw [jmpIndInstr, memRead_of_readable (by rwa [readFault_advance]), andThen_next, memRead_of_fault high, andThen_fault]

/-- JMP indirect with both pointer reads answered, low byte first. -/
theorem exec_jmpInd_of_readable {w w' : Word} (low : Readable w s) (hw' : w' = mkWord (hiByte w) (loByte w + 1))
    (high : Readable w' s) : exec (.jmpInd w) s = .next { finish 3 5 (afterRead w' (afterRead w s)) with
      pc := mkWord (readByte w' (afterRead w s)) (readByte w s) } :=
  (jmpIndInstr_eq_next hw').2 ⟨low, high, rfl⟩

/-- Settles O30: the general rule of JMP indirect gives that for plain memory, where reads change nothing. -/
theorem jumpsGoToTheirTarget : Obligations.JumpsGoToTheirTarget := by
  refine ⟨fun s w => rfl, fun s w w' k k' hk hw' hk' => ?_, fun s w w' => exec_jmpInd_of_readable,
    fun s w e => jmpIndInstr_of_fault_low, ?_⟩
  · obtain ⟨low, lowByte, lowKept⟩ := read_of_memKey hk
    obtain ⟨high, highByte, highKept⟩ := read_of_memKey hk'
    have pointer : w' = mkWord (hiByte w) (loByte w + 1) :=
      BitVec.eq_of_toNat_eq (hw'.trans (pointerHigh_toNat w).symm)
    rw [exec_jmpInd_of_readable low pointer high, lowKept, highKept, lowByte, highByte]
  · rintro s w _ e low rfl high
    exact jmpIndInstr_of_fault_high low high

/-! ## Subroutines (44 R181, R182) -/

/-- JSR pushes the address of its own last byte. -/
theorem exec_jsrAbs (s : State) (w : Word) :
    exec (.jsrAbs w) s = .next { finish 3 6 (push16 (s.pc + 2) s) with pc := w } := by
  have lastByte : s.pc + 3 - 1 = s.pc + 2 := by bv_omega
  rw [exec_eq_run, shapeOf, Shape.run, jsrInstr, advance_pc, lastByte]
  rfl

theorem exec_rts (s : State) : exec .rts s = .next { finish 1 6 (afterPull16 s) with pc := pulled16 s + 1 } := rfl

/-- What a 16-bit pull answers depends on memory and S alone. -/
theorem pulled16_congr {p : State} (mem : t.mem = p.mem) (sp : t.sp = p.sp) : pulled16 t = pulled16 p := by
  rw [pulled16_eq, pulled16_eq, mem, sp]

/-- Settles O31: the address RTS pulls is the one JSR pushed. -/
theorem subroutineCallAndReturn : Obligations.SubroutineCallAndReturn := by
  refine ⟨exec_jsrAbs, exec_rts, fun s t w wf run => ?_⟩
  have called := Host.Outcome.next.inj (run.symm.trans (exec_jsrAbs s w))
  have mem : t.mem = (push16 (s.pc + 2) s).mem := by rw [called]; rfl
  have sp : t.sp = (push16 (s.pc + 2) s).sp := by rw [called]; rfl
  refine ⟨_, exec_rts t, ?_, ?_⟩
  · calc pulled16 t + 1
      _ = s.pc + 2 + 1 := by rw [pulled16_congr mem sp, pulled16_push16 wf]
      _ = s.pc + 3 := by rw [BitVec.add_assoc]; rfl
  · calc t.sp + 1 + 1
      _ = s.sp - 2 + 1 + 1 := by rw [sp, push16_sp]
      _ = s.sp := by bv_omega

/-! ## BRK and RTI (44 R183, R184) -/

/-- The stack is RAM: a push does not change whether a vector read faults. -/
theorem vectorFault_push (vec : Word) (b : Byte) (s : State) : vectorFault vec (push b s) = vectorFault vec s := rfl

/-- Settles O32, from what BRK's shape does. -/
theorem brkTakesItsException : Obligations.BrkTakesItsException := by
  refine ⟨rfl, ?_⟩
  rintro s p rfl
  have run : exec .brk s = _ := brkInstr_eq s _ rfl
  simp only [vectorFault_push]
  refine ⟨fun (answered : vectorFault irqVector s = none) => ?_,
    fun e (fault : vectorFault irqVector s = some e) => ?_, fun nrom => vectorFault_nrom nrom (by decide) (by decide)⟩
  · rw [run, answered]
    rfl
  · rw [run, fault]

/-- RTI's effect: the flags from the byte above the top of the stack, PC from the two above that. -/
theorem returnFromException_eq (s : State) : returnFromException s =
    { unpack (pulled s) s with sp := s.sp + 3, pc := pulled16 (afterPull s) } := by
  have pulls : s.sp + 1 + 1 + 1 = s.sp + 3 := by bv_omega
  rw [← pulls]
  rfl

/-- Settles O33: the three pulled bytes are those at S + 1, S + 2 and S + 3. -/
theorem rtiRestoresFlagsAndPc : Obligations.RtiRestoresFlagsAndPc := by
  rintro s _ _ _ rfl rfl rfl
  have run : exec .rti s = .next (charge 6 (returnFromException (advance 1 s))) := rfl
  have second : s.sp + 1 + 1 = s.sp + 2 := by bv_omega
  have third : s.sp + 1 + 2 = s.sp + 3 := by bv_omega
  rw [run, returnFromException_eq, pulled16_eq, pulled, ramKey_stackAddr]
  simp only [afterPull_sp, afterPull_mem, advance_sp, advance_mem, second, third]
  rfl

/-- A byte pushed and pulled leaves what lies above it to be pulled next. -/
theorem pulled16_afterPull_push (b : Byte) (s : State) : pulled16 (afterPull (push b s)) = pulled16 s := by
  have low : 0x100 + (s.sp + 1).toNat ≠ 0x100 + s.sp.toNat := by bv_omega
  have high : 0x100 + (s.sp + 2).toNat ≠ 0x100 + s.sp.toNat := by bv_omega
  rw [pulled16_eq, pulled16_eq, afterPull_push_sp, afterPull_mem, push_read_other b s low, push_read_other b s high]

theorem push16_wf (wf : s.mem.wf = true) (w : Word) : (push16 w s).mem.wf = true :=
  push_wf (push_wf wf (hiByte w)) (loByte w)

/-- Returning from an exception undoes its pushes, whatever else the entry has changed (60 R259, 44 R184). -/
theorem returnFromException_of_pushed {p : State} {ret : Word} {brk : Bool} (wf : s.mem.wf = true)
    (hp : p = push (pack brk s) (push16 ret s)) (mem : t.mem = p.mem) (sp : t.sp = p.sp) :
    returnFromException t =
      { t with n := s.n, v := s.v, d := s.d, i := s.i, z := s.z, c := s.c, sp := s.sp, pc := ret } := by
  have status : pulled t = pack brk s := by
    rw [pulled, mem, sp, ← pulled, hp, pulled_push (push16_wf wf ret)]
  have address : pulled16 (afterPull t) = ret := by
    have pulledSp : (afterPull t).sp = (afterPull p).sp := congrArg (· + 1) sp
    rw [pulled16_congr (t := afterPull t) (p := afterPull p) mem pulledSp, hp, pulled16_afterPull_push,
      pulled16_push16 wf]
  have top : t.sp + 3 = s.sp := by
    rw [sp, hp, push_sp, push16_sp]
    bv_omega
  obtain ⟨-, unpack_pack, -⟩ := packAndUnpackStatus
  rw [returnFromException_eq, status, address, top, unpack_pack]

/-- Settles O34: BRK's entry leaves its three pushes on the stack, and RTI undoes them. -/
theorem rtiUndoesBrk : Obligations.RtiUndoesBrk := by
  intro s t wf run
  obtain ⟨-, brk⟩ := brkTakesItsException
  obtain ⟨p, pushed⟩ : ∃ p, p = push (pack true s) (push16 (s.pc + 2) s) := ⟨_, rfl⟩
  obtain ⟨goesOn, faults, -⟩ := brk s p pushed
  cases fault : vectorFault 0xFFFE p with
  | some e => exact nomatch (faults e fault).symm.trans run
  | none =>
    have left := Host.Outcome.next.inj (run.symm.trans (goesOn fault))
    have mem : t.mem = p.mem := by rw [left]; rfl
    have sp : t.sp = p.sp := by rw [left]; rfl
    refine ⟨charge 6 (returnFromException (advance 1 t)), rfl, ?_⟩
    rw [returnFromException_of_pushed (t := advance 1 t) wf pushed mem sp]
    exact ⟨rfl, rfl, rfl, rfl, rfl, rfl, rfl, rfl⟩

end Sys2Proof.Machine
end

section
/-! PROOF. The statements of spec 45: stack, flags, NOP. Each one-byte instruction is one of implied mode, as those of
spec 41 are; what the statements add to the machine's stack operations is the place in memory they name. The NOPs with
an operand are read-class forms that discard the byte. -/

namespace Sys2Proof.Machine

open Sys2Proof.Forms

/-! ## The stack's byte in memory (10 R27) -/

/-- A push writes the byte of page one that S names. -/
theorem push_eq_write (b : Byte) (s : State) :
    push b s = { s with mem := s.mem.write (0x100 + s.sp.toNat) b, sp := s.sp - 1 } := by
  rw [push, ramKey_stackAddr]

/-- A pull reads the byte of page one that the incremented S names. -/
theorem pulled_eq_read (s : State) : pulled s = s.mem.read (0x100 + (s.sp + 1).toNat) := by
  rw [pulled, ramKey_stackAddr]

/-! ## The NOPs with an operand (46 R231-R233) -/

theorem nopForms_isRead (n : Byte) (w : Word) : (nopForms n w).Forall (IsReadForm discard) := by
  repeat' constructor

/-! ## The statements -/

/-- Settles O35: each is an implied-mode instruction of the machine with its push or pull as its effect. -/
theorem stackInstructions : Obligations.StackInstructions := by
  rw [Obligations.StackInstructions, ← setNZ_eq_setZeroNegative]
  refine ⟨oneByteRule_of_implied rfl rfl fun u => ?pha, oneByteRule_of_implied rfl rfl fun u => ?php,
    oneByteRule_of_implied rfl rfl fun u => ?pla, oneByteRule_of_implied rfl rfl fun u => ?plp⟩
  case pha | php =>
    rw [push_eq_write]
    rfl
  case pla =>
    rw [pullA, pulled_eq_read]
    rfl
  case plp =>
    rw [pulled_eq_read]
    rfl

/-- Settles O36: each is an implied-mode instruction of the machine that writes its flag. -/
theorem flagInstructions : Obligations.FlagInstructions := by
  refine ⟨?_, ?_, ?_, ?_, ?_, ?_, ?_⟩
  all_goals exact oneByteRule_of_implied rfl rfl fun _ => rfl

/-- Settles O37: the implied NOPs have no effect, and the other forms are reads that have none beyond the access. -/
theorem nopsOnlyAdvance : Obligations.NopsOnlyAdvance := by
  refine ⟨?_, ?_, ?_, ?_, ?_, ?_, ?_, readRule_of_isRead nopForms_isRead fun _ _ _ => rfl⟩
  all_goals exact oneByteRule_of_implied rfl rfl fun _ => rfl

end Sys2Proof.Machine
end

section
/-! PROOF. The statements of spec 46: the unofficial opcodes. Most are forms of the shapes spec 41 and 42 have, with a
combination of two official operations as their effect; the unstable stores have a rule of their own, which turns on
that neither PC nor S moves an effective address; a JAM leaves a halted machine. -/

namespace Sys2Proof.Machine

open Sys2Proof.Forms

/-! ## Read-modify-write combinations (46 R211-R214, R217, R218) -/

theorem sloForms_isRmw (n : Byte) (w : Word) : (sloForms n w).Forall (IsRmwForm aslByte afterSlo) := by
  repeat' constructor

theorem rlaForms_isRmw (n : Byte) (w : Word) : (rlaForms n w).Forall (IsRmwForm rolByte afterRla) := by
  repeat' constructor

theorem sreForms_isRmw (n : Byte) (w : Word) : (sreForms n w).Forall (IsRmwForm lsrByte afterSre) := by
  repeat' constructor

theorem rraForms_isRmw (n : Byte) (w : Word) : (rraForms n w).Forall (IsRmwForm rorByte afterRra) := by
  repeat' constructor

theorem dcpForms_isRmw (n : Byte) (w : Word) : (dcpForms n w).Forall (IsRmwForm decByte afterDcp) := by
  repeat' constructor

theorem iscForms_isRmw (n : Byte) (w : Word) : (iscForms n w).Forall (IsRmwForm incByte afterIsc) := by
  repeat' constructor

/-- Settles O38: every form is a read-modify-write instruction of the machine, whose shift is the arithmetic one. -/
theorem shiftThenLogic : Obligations.ShiftThenLogic := by
  rw [Obligations.ShiftThenLogic, ← setNZ_eq_setZeroNegative, ← aslByte_eq, ← rolByte_eq_rotatedLeft, ← lsrByte_eq]
  exact ⟨rmwRule_of_isRmw sloForms_isRmw fun _ _ _ _ => rfl, rmwRule_of_isRmw rlaForms_isRmw fun _ _ _ _ => rfl,
    rmwRule_of_isRmw sreForms_isRmw fun _ _ _ _ => rfl⟩

/-- Settles O39: what follows the write is ADC with the rotate's carry, CMP or SBC, each exact. -/
theorem countOrRotateThenArithmetic : Obligations.CountOrRotateThenArithmetic := by
  rw [Obligations.CountOrRotateThenArithmetic, ← rorByte_eq_rotatedRight, ← adc_eq_addExactly,
    ← compareWith_eq_compareExactly, ← sbc_eq_subtractExactly]
  exact ⟨rmwRule_of_isRmw rraForms_isRmw fun _ _ _ _ => rfl, rmwRule_of_isRmw dcpForms_isRmw fun _ _ _ _ => rfl,
    rmwRule_of_isRmw iscForms_isRmw fun _ _ _ _ => rfl⟩

/-! ## SAX, LAX and LAS (46 R215, R216, R229) -/

theorem saxForms_isStore (n : Byte) (w : Word) : (saxForms n w).Forall (IsStoreForm fun t => t.a &&& t.x) := by
  repeat' constructor

theorem laxForms_isRead (n : Byte) (w : Word) : (laxForms n w).Forall (IsReadForm loadAX) := by
  repeat' constructor

theorem lasForms_isRead (n : Byte) (w : Word) : (lasForms n w).Forall (IsReadForm las) := by
  repeat' constructor

/-- Settles O40: the forms of SAX are stores and those of LAX and LAS loads of the machine. -/
theorem saxLaxLas : Obligations.SaxLaxLas := by
  rw [Obligations.SaxLaxLas, ← setNZ_eq_setZeroNegative]
  exact ⟨storeRule_of_isStore saxForms_isStore fun _ _ => rfl, readRule_of_isRead laxForms_isRead fun _ _ _ => rfl,
    readRule_of_isRead lasForms_isRead fun _ _ _ => rfl⟩

/-! ## The immediate combinations (46 R219-R221, R224) -/

/-- ALR's result is LSR's, of `A & n`. -/
theorem alr_eq_lsrByte (m : Byte) (s : State) :
    alr m s = setNZ (lsrByte (s.a &&& m) s.c) { s with a := lsrByte (s.a &&& m) s.c, c := bit 0 (s.a &&& m) } := rfl

/-- Settles O41: ALR's and ARR's results are those of LSR and ROR, so the arithmetic ones. -/
theorem immediateCombinations : Obligations.ImmediateCombinations := by
  rw [Obligations.ImmediateCombinations, ← setNZ_eq_setZeroNegative, ← rorByte_eq_rotatedRight]
  refine ⟨immediateRule_of_isRead (f := anc) ?_ fun _ _ _ => rfl,
    immediateRule_of_isRead (f := anc) ?_ fun _ _ _ => rfl, immediateRule_of_isRead (f := alr) ?_ fun _ _ _ => ?alr,
    immediateRule_of_isRead (f := arr) ?_ fun _ _ _ => rfl, immediateRule_of_isRead (f := sbx) ?_ fun _ _ _ => rfl⟩
  case alr =>
    rw [alr_eq_lsrByte, lsrByte_eq]
    rfl
  all_goals exact fun _ => ⟨rfl, rfl, rfl, rfl⟩

/-! ## The unstable stores (46 R225-R228) -/

section UnstableStores

variable {mnemonic : String} {m : Mode} {pre : State → State} {reg : State → Byte} {s : State}

/-- Effective addresses do not depend on S. -/
theorem baseAddr_withSp (m : Mode) (sp : Byte) (s : State) : baseAddr m { s with sp := sp } = baseAddr m s := by
  cases m <;> rfl

/-- See `baseAddr_withSp`. -/
theorem effAddr_withSp (m : Mode) (sp : Byte) (s : State) : effAddr m { s with sp := sp } = effAddr m s := by
  cases m <;> rfl

/-- An unstable store's address, by the page of the indexed address (46 R225). -/
theorem shAddr_eq (m : Mode) (b : Byte) (s : State) : shAddr m b s =
    if hiByte (baseAddr m s) = hiByte (effAddr m s) then effAddr m s else mkWord b (loByte (effAddr m s)) := by
  simp only [shAddr, pageCross, bne_iff_ne, ne_eq, ite_not]

/-- An unstable store whose write faults ends the tick in that fault. -/
theorem shInstr_of_writeFault {u : State} {e : Fault} (hu : u = pre (advance (modeLength m) s))
    (h : writeFault (shAddr m (reg u &&& shHigh m u) u) (reg u &&& shHigh m u) u = some e) :
    shInstr .standard mnemonic m pre reg s = .fault e := by
  subst hu
  simp only [shInstr, dummyRead_none, andThen_next, memWrite, h, andThen_fault]

/-- The machine runs a form as an unstable store of `reg` after `pre`: at the form's opcode, in its mode, at its
cost. -/
structure IsUnstableForm (mnemonic : String) (pre : State → State) (reg : State → Byte) (form : Form) : Prop where
  opcode : codeOf form.instr = form.op
  shape : shapeOf form.instr = .unstable mnemonic form.mode pre reg
  cost : storeCost form.mode = form.base

/-- The rule of a list of unstable stores: each form is one on the machine, `pre` writes S alone, and neither `pre` nor
the value depends on PC. -/
theorem shRule_of_isUnstable {forms : Byte → Word → List Form}
    (isUnstable : ∀ n w, (forms n w).Forall (IsUnstableForm mnemonic pre reg))
    (writesSp : ∀ u, pre u = { u with sp := (pre u).sp })
    (preAdvanced : ∀ len u, pre (advance len u) = advance len (pre u))
    (regAdvanced : ∀ len u, reg (advance len u) = reg u) : ShRule forms pre reg := by
  intro s n w form mem
  have unstable := List.forall_iff_forall_mem.1 (isUnstable n w) form mem
  have run : exec form.instr s = shInstr .standard mnemonic form.mode pre reg s := by
    rw [exec_eq_run, unstable.shape, Shape.run]
  refine ⟨by rw [opcodeOf_eq, unstable.opcode], fun v addr value address => ?_⟩
  obtain ⟨u, start⟩ : ∃ u, u = advance (modeLength form.mode) (pre s) := ⟨_, rfl⟩
  have base : baseAddr form.mode u = baseAddr form.mode s := by
    rw [start, baseAddr_advance, writesSp s, baseAddr_withSp]
  have indexed : effAddr form.mode u = effAddr form.mode s := by
    rw [start, effAddr_advance, writesSp s, effAddr_withSp]
  have stored : reg u &&& shHigh form.mode u = v := by rw [value, shHigh, base, start, regAdvanced]
  have target : shAddr form.mode v u = addr := by rw [address, shAddr_eq, base, indexed]
  have faults : writeFault addr v u = writeFault addr v s := by
    rw [start, writesSp s]
    rfl
  have due : writeCycle form.base u = s.cycles + s.stall + (form.base - 1) := by
    rw [start, writesSp s]
    rfl
  have begins : u = pre (advance (modeLength form.mode) s) := by rw [start, preAdvanced]
  rw [run]
  refine ⟨fun writable => ?_, fun e fault => shInstr_of_writeFault begins ?_⟩
  · have next := (shInstr_eq_next (mnemonic := mnemonic) (reg := reg) begins).2
      ⟨by rwa [stored, target, faults], rfl⟩
    rw [next, stored, target, unstable.cost, due, start, afterWrite_advance]
    rfl
  · rwa [stored, target, faults]

end UnstableStores

theorem shaForms_isUnstable (n : Byte) (w : Word) :
    (shaForms n w).Forall (IsUnstableForm "SHA" (fun t => t) fun t => t.a &&& t.x) := by
  repeat' constructor

theorem shxForms_isUnstable (n : Byte) (w : Word) :
    (shxForms n w).Forall (IsUnstableForm "SHX" (fun t => t) fun t => t.x) := by
  repeat' constructor

theorem shyForms_isUnstable (n : Byte) (w : Word) :
    (shyForms n w).Forall (IsUnstableForm "SHY" (fun t => t) fun t => t.y) := by
  repeat' constructor

theorem tasForms_isUnstable (n : Byte) (w : Word) :
    (tasForms n w).Forall (IsUnstableForm "TAS" (fun t => { t with sp := t.a &&& t.x }) fun t => t.sp) := by
  repeat' constructor

/-- Settles O43: each form is an unstable store of the machine, and TAS alone writes S before it. -/
theorem unstableStores : Obligations.UnstableStores := by
  refine ⟨shRule_of_isUnstable shaForms_isUnstable ?_ ?_ ?_, shRule_of_isUnstable shxForms_isUnstable ?_ ?_ ?_,
    shRule_of_isUnstable shyForms_isUnstable ?_ ?_ ?_, shRule_of_isUnstable tasForms_isUnstable ?_ ?_ ?_⟩
  all_goals intros; rfl

/-! ## JAM (46 R234) -/

theorem jams_lock : [Instr.jam02, .jam12, .jam22, .jam32, .jam42, .jam52, .jam62, .jam72, .jam92, .jamB2, .jamD2,
    .jamF2].Forall fun i => shapeOf i = .lock := by
  repeat' constructor

/-- A halted machine answers `Lockup` and stays as it is (60 R261). -/
theorem step_of_halted {s : State} (h : s.halted = true) : step s = .fault (.lockup s) := by
  rw [step, tick, if_pos h]

/-- Settles O44: a JAM's shape is the lock-up, and the machine it leaves is halted. -/
theorem jamLocksUp : Obligations.JamLocksUp := by
  intro s i jam
  have lock := List.forall_iff_forall_mem.1 jams_lock i jam
  exact ⟨lockUp s, rfl, exec_eq_lockup.2 ⟨lock, rfl⟩, step_of_halted (lockUp_halted s)⟩

end Sys2Proof.Machine
end

section
/-! PROOF. The statements of spec 60: ticks, stalls, interrupts, lock-up, cycles, and the invariant of the reachable
states. What an instruction takes is said once, by shape (`Shape.run_delayed`), and compared with its row of the opcode
table (`costRow_of`); what a boundary tick does before its instruction is said once for the poll (`poll_leaves`) and
once for the fetch (`fetchInstr_eq_next`). -/

namespace Sys2Proof.Machine

open Sys2Proof.Forms

variable {s t u : State} {e : Fault}

/-! ## What an instruction leaves of the counters and the latch (60 R254, R255) -/

/-- The counters of a state, and its NMI latch. -/
structure Counters where
  stall : Nat
  cycles : Nat
  nmiPending : Bool

def counters (s : State) : Counters := ⟨s.stall, s.cycles, s.nmiPending⟩

theorem counters_afterRead (addr : Word) (s : State) : counters (afterRead addr s) = counters s := by
  simp only [counters, afterRead_stall, afterRead_cycles, afterRead_nmiPending]

theorem counters_afterOperand (m : Mode) (s : State) : counters (afterOperand m s) = counters s := by
  cases m
  case imm => rfl
  all_goals exact counters_afterRead _ s

/-- No effect of an instruction's own touches the counters or the latch. -/
theorem counters_effect (i : Instr) (b r : Byte) (w : Word) (u : State) :
    counters ((shapeOf i).effect b r w u) = counters u := by
  have op := operation_of i
  generalize mnemonicOf i = name, shapeOf i = sh at op ⊢
  cases op <;> rfl

/-- From `s` to `u` the counters and the latch are as they were, but for the stall of an OAM DMA, which only what
stores can start (20 R55, R56). -/
def Delayed (stores : Bool) (s u : State) : Prop :=
  ∃ dma, (dma = 0 ∨ (stores = true ∧ (dma = 513 ∨ dma = 514))) ∧
    counters u = { counters s with stall := (counters s).stall + dma }

theorem Delayed.of_counters {stores : Bool} (h : counters u = counters s) : Delayed stores s u := ⟨0, .inl rfl, h⟩

theorem Delayed.trans_counters {stores : Bool} (h : Delayed stores s t) (g : counters u = counters t) :
    Delayed stores s u := by
  rwa [Delayed, g]

theorem Delayed.counters_trans {stores : Bool} (g : counters t = counters s) (h : Delayed stores t u) :
    Delayed stores s u := by
  rwa [Delayed, g] at h

/-- A bus write leaves the stall alone, or adds the cost of the DMA it starts. -/
theorem afterWrite_delayed (tw : Nat) (addr : Word) (b : Byte) (s : State) :
    Delayed true s (afterWrite tw addr b s) := by
  unfold afterWrite
  cases region addr
  case ram | ppu | test => exact .of_counters rfl
  case cart =>
    refine .of_counters ?_
    simp only [counters, afterCartWrite_stall, afterCartWrite_cycles, afterCartWrite_nmiPending]
  case io =>
    simp only
    split
    · refine ⟨dmaCycles Config.dmaOddExtra tw, .inr ⟨rfl, ?_⟩, ?_⟩
      · rw [dmaCycles_eq]
        split <;> simp
      · simp only [oamDma, counters, dmaCopy_stall, dmaCopy_cycles, dmaCopy_nmiPending, devWrite_stall,
          devWrite_cycles, devWrite_nmiPending]
    · exact .of_counters rfl

/-- The cycles a shape takes in `s` (70 R299). A JAM takes none. -/
def Shape.cost (s : State) : Shape → Nat
  | .read m _ => readCost m s
  | .store m _ | .unstable _ m _ _ => storeCost m
  | .rmw m _ _ => rmwCost m
  | .acc _ _ => 2
  | .implied cost _ => cost
  | .branch cond n => 2 + branchExtra (cond s) (s.pc + 2) n
  | .jump _ => 3
  | .jumpIndirect _ => 5
  | .call _ => 6
  | .brk => 7
  | .lock => 0

/-- An instruction that goes on is charged its shape's cost, once, after everything else it does. -/
theorem Shape.run_delayed {sh : Shape} (effect : ∀ b r w u, counters (sh.effect b r w u) = counters u)
    (h : sh.run s = .next t) : ∃ u, Delayed sh.stores s u ∧ t = charge (sh.cost s) u := by
  cases sh with
  | read m f =>
    obtain ⟨-, rfl⟩ := readInstr_eq_next.1 h
    refine ⟨_, ?_, rfl⟩
    exact .of_counters ((effect _ 0 0 _).trans (counters_afterOperand m _))
  | store m value =>
    obtain ⟨-, rfl⟩ := storeInstr_eq_next.1 h
    refine ⟨_, ?_, rfl⟩
    exact afterWrite_delayed _ _ _ _
  | rmw m result post =>
    obtain ⟨-, -, rfl⟩ := rmwInstr_eq_next.1 h
    have start : counters (advance (modeLength m) (afterRead (effAddr m s) s)) = counters s := counters_afterRead _ s
    refine ⟨_, ?_, rfl⟩
    exact .counters_trans start (.trans_counters (afterWrite_delayed _ _ _ _) (effect _ _ 0 _))
  | acc result post =>
    cases h
    refine ⟨_, ?_, rfl⟩
    exact .of_counters (effect _ _ 0 _)
  | implied cost f =>
    cases h
    refine ⟨_, ?_, rfl⟩
    exact .of_counters (effect 0 0 0 _)
  | unstable mnemonic m pre reg =>
    obtain ⟨-, rfl⟩ := (shInstr_eq_next (mnemonic := mnemonic) rfl).1 h
    have start : counters (pre (advance (modeLength m) s)) = counters s := effect 0 0 0 (advance (modeLength m) s)
    exact ⟨_, .counters_trans start (afterWrite_delayed _ _ _ _), rfl⟩
  | branch cond n =>
    cases h
    refine ⟨_, .of_counters ?_, rfl⟩
    split <;> rfl
  | jump addr =>
    cases h
    refine ⟨_, ?_, rfl⟩
    exact .of_counters rfl
  | jumpIndirect addr =>
    obtain ⟨-, -, rfl⟩ := (jmpIndInstr_eq_next rfl).1 h
    refine ⟨_, ?_, rfl⟩
    exact .of_counters ((counters_afterRead _ _).trans (counters_afterRead _ s))
  | call addr =>
    cases h
    refine ⟨_, ?_, rfl⟩
    exact .of_counters rfl
  | brk =>
    rw [Shape.run, brkInstr_eq s _ rfl] at h
    split at h
    · exact nomatch h
    · cases h
      refine ⟨_, ?_, rfl⟩
      exact .of_counters (effect 0 0 (s.pc + 2) (advance 1 s))
  | lock => exact nomatch h

theorem exec_delayed {i : Instr} (h : exec i s = .next t) :
    ∃ u, Delayed (storesAtAddr i) s u ∧ t = charge ((shapeOf i).cost s) u := by
  rw [exec_eq_run] at h
  rw [← shape_stores_eq]
  exact Shape.run_delayed (counters_effect i) h

/-- An instruction that goes on counts one tick and leaves the latch alone. -/
theorem exec_cycles {i : Instr} (h : exec i s = .next t) : t.cycles = s.cycles + 1 := by
  obtain ⟨u, ⟨dma, -, kept⟩, rfl⟩ := exec_delayed h
  exact congrArg (· + 1) (congrArg Counters.cycles kept)

theorem exec_nmiPending {i : Instr} (h : exec i s = .next t) : t.nmiPending = s.nmiPending := by
  obtain ⟨u, ⟨dma, -, kept⟩, rfl⟩ := exec_delayed h
  exact congrArg Counters.nmiPending kept

theorem exec_halted {i : Instr} (h : exec i s = .next t) : t.halted = s.halted := by
  obtain ⟨-, -, -, -, -, -, -, -, -, halted⟩ := onlyListedInstructionsWriteEachRegister i s t h
  exact halted

/-! ## The cost of an instruction is its row's (60 R254) -/

/-- How the row of an instruction, by its base cycles and extra-cycle class, goes with its shape. -/
inductive CostRow (i : Instr) : Shape → Nat → ExtraCycle → Prop where
  | crossing {m : Mode} {f} (mode : operandMode i = some m) : CostRow i (.read m f) (readBase m) .pageCross
  | read {m : Mode} {f} (flat : indexesBase m = false) : CostRow i (.read m f) (readBase m) .none
  | store {m : Mode} {value} : CostRow i (.store m value) (storeCost m) .none
  | rmw {m : Mode} {result post} : CostRow i (.rmw m result post) (rmwCost m) .none
  | acc {result post} : CostRow i (.acc result post) 2 .none
  | implied {cost : Nat} {f} : CostRow i (.implied cost f) cost .none
  | unstable {m : Mode} {mnemonic pre reg} : CostRow i (.unstable mnemonic m pre reg) (storeCost m) .none
  | branch {cond n} : CostRow i (.branch cond n) 2 .branch
  | jump {addr} : CostRow i (.jump addr) 3 .none
  | jumpIndirect {addr} : CostRow i (.jumpIndirect addr) 5 .none
  | call {addr} : CostRow i (.call addr) 6 .none
  | brk : CostRow i .brk 7 .none
  | lock : CostRow i .lock 0 .none

/-- The case split over the instructions: base and class fix how each row goes with its shape. -/
theorem costRow_of (i : Instr) : CostRow i (shapeOf i) (rowOf i).2.2.1 (rowOf i).2.2.2 := by
  cases i <;> constructor <;> simp only [operandMode, mode_eq, rowOf, encode, mkWord_hi_lo, indexesBase]

/-- A branch is taken when the flag of its shape says so. -/
theorem branchTaken_eq {i : Instr} {cond : State → Bool} {n : Byte} (h : shapeOf i = .branch cond n) (s : State) :
    branchTaken i s = cond s := by
  have op := operation_of i
  rw [h] at op
  unfold branchTaken
  generalize mnemonicOf i = name at op ⊢
  cases op <;> rfl

/-- Where a branch goes on. -/
theorem branchInstr_pc {cond : Bool} {n : Byte} (h : branchInstr cond n s = .next t) :
    t.pc = if cond then branchTarget (s.pc + 2) n else s.pc + 2 := by
  cases h
  cases cond <;> rfl

/-- What an instruction that goes on is charged is its cost by its row of the opcode table. -/
theorem shape_cost_eq_tableCost {i : Instr} (h : exec i s = .next t) :
    (shapeOf i).cost s = tableCost i s (branchTaken i s) t.pc := by
  have row := costRow_of i
  have taken := fun cond n => branchTaken_eq (i := i) (cond := cond) (n := n)
  rw [exec_eq_run] at h
  rw [tableCost, base_eq, extra_eq]
  generalize (rowOf i).2.2.1 = base, (rowOf i).2.2.2 = extra, shapeOf i = sh at row taken h ⊢
  cases row with
  | crossing mode => simp only [Shape.cost, mode, readCost]
  | @read m _ flat =>
    have cross : pageCross m s = false := by rw [pageCross_eq_indexesBase_and, flat, Bool.false_and]
    simp only [Shape.cost, readCost, cross, Bool.false_eq_true, if_false]
  | @branch cond n =>
    simp only [Shape.cost, branchExtra, taken cond n rfl, branchInstr_pc h]
    cases cond s <;> simp
  | _ => rfl

/-- Settles O53, from what is charged, the table's cost, and the stall a write can add. -/
theorem stallQueuedIsTheTablesCost : Obligations.StallQueuedIsTheTablesCost := by
  intro i s t h
  obtain ⟨u, ⟨dma, delay, kept⟩, ht⟩ := exec_delayed h
  have stall : u.stall = s.stall + dma := congrArg Counters.stall kept
  refine ⟨exec_cycles h, dma, ?_, delay⟩
  rw [← shape_cost_eq_tableCost h, ht, charge_stall, stall]
  omega

/-! ## Fetching (40 R90) -/

theorem fetchInstr_of_fault (h : memRead s.pc s = .fault e) : fetchInstr s = .fault e := by
  rw [fetchInstr, h, andThen_fault]

section Fetch

variable {b0 b1 b2 : Byte} {s1 s2 s3 : State}

theorem fetchInstr_one (read0 : memRead s.pc s = .next (b0, s1)) (len : opLength b0 = 1) :
    fetchInstr s = .next (assemble b0 0 0, s1) := by
  simp only [fetchInstr, read0, andThen_next, len, if_true]

theorem fetchInstr_of_fault_second (read0 : memRead s.pc s = .next (b0, s1)) (len : 2 ≤ opLength b0)
    (fault : memRead (s.pc + 1) s1 = .fault e) : fetchInstr s = .fault e := by
  have one : opLength b0 ≠ 1 := by omega
  simp only [fetchInstr, read0, andThen_next, if_neg one, fault, andThen_fault]

theorem fetchInstr_two (read0 : memRead s.pc s = .next (b0, s1)) (read1 : memRead (s.pc + 1) s1 = .next (b1, s2))
    (len : opLength b0 = 2) : fetchInstr s = .next (assemble b0 b1 0, s2) := by
  simp only [fetchInstr, read0, read1, andThen_next, len, Nat.reduceEqDiff, if_true, if_false]

theorem fetchInstr_of_fault_third (read0 : memRead s.pc s = .next (b0, s1))
    (read1 : memRead (s.pc + 1) s1 = .next (b1, s2)) (len : opLength b0 = 3)
    (fault : memRead (s.pc + 2) s2 = .fault e) : fetchInstr s = .fault e := by
  simp only [fetchInstr, read0, read1, andThen_next, len, Nat.reduceEqDiff, if_false, fault, andThen_fault]

theorem fetchInstr_three (read0 : memRead s.pc s = .next (b0, s1)) (read1 : memRead (s.pc + 1) s1 = .next (b1, s2))
    (read2 : memRead (s.pc + 2) s2 = .next (b2, s3)) (len : opLength b0 = 3) :
    fetchInstr s = .next (assemble b0 b1 b2, s3) := by
  simp only [fetchInstr, read0, read1, read2, andThen_next, len, Nat.reduceEqDiff, if_false]

/-- What is fetched has the opcode read at PC; if the opcode is all of it, that read is all of the fetch. -/
theorem fetchInstr_eq_next {i : Instr} (h : fetchInstr s = .next (i, t)) :
    ∃ op u, memRead s.pc s = .next (op, u) ∧ codeOf i = op ∧ (opLength op = 1 → t = u) := by
  obtain ⟨⟨op, u⟩, read0, h⟩ := andThen_eq_next.1 h
  refine ⟨op, u, read0, ?_⟩
  split at h
  · cases h
    exact ⟨codeOf_assemble .., fun _ => rfl⟩
  · rename_i len
    refine ⟨?_, fun one => absurd one len⟩
    obtain ⟨⟨b1, v⟩, -, h⟩ := andThen_eq_next.1 h
    split at h
    · cases h
      exact codeOf_assemble ..
    · obtain ⟨⟨b2, w⟩, -, h⟩ := andThen_eq_next.1 h
      cases h
      exact codeOf_assemble ..

/-- A string that decodes whole is as long as its opcode says. -/
theorem opLength_of_decode {op : Byte} {bytes : List Byte} {i : Instr} (h : decode (op :: bytes) = .ok (i, [])) :
    opLength op = bytes.length + 1 := by
  have written := encode_of_decode h
  rw [List.append_nil] at written
  rw [← codeOf_of_decode h, ← length_encode, written, List.length_cons]

end Fetch

/-- Settles O49: the fetch reads byte by byte, as many bytes as decode whole. -/
theorem quietBoundaryFetchesAtPc : Obligations.QuietBoundaryFetchesAtPc := by
  intro s quiet
  have faults {e} (h : fetchInstr s = .fault e) : step s = .fault e := by
    rw [step_quiet quiet, fetchExec, h, andThen_fault]
  have runs {i v} (h : fetchInstr s = .next (i, v)) : step s = exec i v := by
    rw [step_quiet quiet, fetchExec, h, andThen_next]
  refine ⟨step_quiet quiet, fun e h => faults (fetchInstr_of_fault h), fun b0 s1 read0 => ⟨fun i h => ?_,
    fun e len h => faults (fetchInstr_of_fault_second read0 len h), fun b1 s2 read1 => ⟨fun i h => ?_,
    fun e len h => faults (fetchInstr_of_fault_third read0 read1 len h), fun b2 s3 i read2 h => ?_⟩⟩⟩
  · have len : opLength b0 = 1 := opLength_of_decode h
    simp only [decode, len] at h
    cases h
    exact runs (fetchInstr_one read0 len)
  · have len : opLength b0 = 2 := opLength_of_decode h
    simp only [decode, len] at h
    cases h
    exact runs (fetchInstr_two read0 read1 len)
  · have len : opLength b0 = 3 := opLength_of_decode h
    simp only [decode, len] at h
    cases h
    exact runs (fetchInstr_three read0 read1 read2 len)

/-! ## Stall ticks (60 R250, R251) -/

theorem step_of_stall (running : s.halted = false) (h : 0 < s.stall) : step s = .next (stallTick s) :=
  step_eq_next.2 ⟨running, .inl ⟨h, rfl⟩⟩

theorem step_at_boundary (running : s.halted = false) (stall : s.stall = 0) : step s = andThen (poll s) fetchExec := by
  simp [step, tick, boundaryTick, running, stall]

/-- As many stall ticks as are queued, one after the other. -/
theorem ticks_stall (n : Nat) : ∀ {s : State}, s.halted = false → s.stall = n →
    ticks n s = .next { s with stall := 0, cycles := s.cycles + n } := by
  induction n with
  | zero =>
    rintro ⟨⟩ - queued
    cases queued
    rfl
  | succ n ih =>
    intro s running queued
    have first := step_of_stall running (by omega)
    have rest := ih (s := stallTick s) running (by rw [stallTick_stall, queued, Nat.add_sub_cancel])
    rw [ticks, first, andThen_next, rest, stallTick_cycles, Nat.add_assoc, Nat.add_comm 1 n]
    rfl

/-- Settles O46: one stall tick by the precedence of the tick, all of them by induction on their number. -/
theorem stallTicksOnlyCount : Obligations.StallTicksOnlyCount :=
  ⟨fun _ running queued => step_of_stall running queued, fun s running => ticks_stall s.stall running rfl⟩

/-! ## Taking an interrupt (60 R253-R260) -/

/-- The state in which the handler's first instruction is fetched, after an interrupt taken at a boundary. -/
def entered (vec : Word) (s : State) : State :=
  let p := push (pack false s) (push16 s.pc s)
  { p with i := true, stall := Config.intEntryCycles, pc := vectorWord vec p }

/-- At a boundary an entry goes on in one way: when the vector answers. -/
theorem enterInterrupt_eq_next {vec : Word} (h : 0x4020 ≤ vec.toNat) (h' : vec.toNat < 0xFFFF) (stall : s.stall = 0) :
    enterInterrupt vec s = .next t ↔ vectorFault vec s = none ∧ t = entered vec s := by
  rw [enterInterrupt_eq s h h', stall]
  cases vectorFault vec s <;> simp [entered, eq_comm]

/-- A boundary tick whose poll enters an interrupt: the handler's first instruction, or the vector's fault. -/
theorem step_of_entry {vec : Word} (h : 0x4020 ≤ vec.toNat) (h' : vec.toNat < 0xFFFF) (running : s.halted = false)
    (stall : s.stall = 0) (polled : poll s = enterInterrupt vec u) (stall' : u.stall = 0) :
    (vectorFault vec u = none → step s = fetchExec (entered vec u)) ∧
    (∀ e, vectorFault vec u = some e → step s = .fault e) := by
  rw [step_at_boundary running stall, polled]
  refine ⟨fun answered => ?_, fun e fault => ?_⟩
  · rw [(enterInterrupt_eq_next h h' stall').2 ⟨answered, rfl⟩, andThen_next]
  · rw [(enterInterrupt_eq_fault h h').2 fault, andThen_fault]

/-- Settles O50: with the latch set, the poll enters through $FFFA with the latch cleared. -/
theorem nmiIsTakenAtTheBoundary : Obligations.NmiIsTakenAtTheBoundary := by
  rintro s p running stall latched rfl
  have polled : poll s = enterInterrupt nmiVector { s with nmiPending := false } := if_pos latched
  obtain ⟨next, fault⟩ := step_of_entry (by decide) (by decide) running stall polled stall
  exact ⟨next, fault, fun nrom => vectorFault_nrom nrom (by decide) (by decide)⟩

/-- Settles O51: with no NMI, the level high and I clear, the poll enters through $FFFE. -/
theorem irqIsTakenAtTheBoundary : Obligations.IrqIsTakenAtTheBoundary := by
  rintro s p running stall unlatched level unmasked rfl
  have polled : poll s = enterInterrupt irqVector s := by simp [poll, unlatched, level, unmasked]
  obtain ⟨next, fault⟩ := step_of_entry (by decide) (by decide) running stall polled stall
  exact ⟨next, fault, fun nrom => vectorFault_nrom nrom (by decide) (by decide)⟩

/-! ## What poll and fetch leave for the instruction (60 R252) -/

/-- The poll leaves the latch clear, counts nothing and does not halt. -/
theorem poll_leaves (stall : s.stall = 0) (h : poll s = .next t) :
    t.nmiPending = false ∧ t.cycles = s.cycles ∧ t.halted = s.halted := by
  obtain ⟨-, entry⟩ | ⟨unlatched, -, -, entry⟩ | ⟨unlatched, -, rfl⟩ := poll_eq_next h
  · have stall' : { s with nmiPending := false }.stall = 0 := stall
    obtain ⟨-, rfl⟩ := (enterInterrupt_eq_next (by decide) (by decide) stall').1 entry
    exact ⟨rfl, rfl, rfl⟩
  · obtain ⟨-, rfl⟩ := (enterInterrupt_eq_next (by decide) (by decide) stall).1 entry
    exact ⟨unlatched, rfl, rfl⟩
  · exact ⟨unlatched, rfl, rfl⟩

/-- Poll and fetch together leave the latch clear, count nothing and do not halt. -/
theorem poll_fetch_leaves {i : Instr} (stall : s.stall = 0) (polled : poll s = .next u)
    (fetched : fetchInstr u = .next (i, t)) :
    t.nmiPending = false ∧ t.cycles = s.cycles ∧ t.halted = s.halted := by
  obtain ⟨kept, -, -⟩ := fetchInstr_withCpu fetched
  obtain ⟨nmi, cycles, halted⟩ := poll_leaves stall polled
  exact ⟨(congrArg State.nmiPending kept).trans nmi, (congrArg State.cycles kept).trans cycles,
    (congrArg State.halted kept).trans halted⟩

/-- Settles O52, in the cases of what a tick can leave. -/
theorem nmiLatchClearedOnlyWhenTaken : Obligations.NmiLatchClearedOnlyWhenTaken := by
  intro s t h
  obtain ⟨halted, rfl⟩ | ⟨running, ⟨queued, rfl⟩ | ⟨stall, u, i, v, polled, fetched, left⟩⟩ :=
    tickLeaves_iff.1 h
  · exact ⟨fun _ => rfl, fun running => absurd (halted.symm.trans running) (by decide)⟩
  · exact ⟨fun _ => rfl, fun _ stall => by omega⟩
  · refine ⟨fun busy => ?_, fun _ _ => ?_⟩
    · simp [running, stall] at busy
    · obtain ⟨clear, -, -⟩ := poll_fetch_leaves stall polled fetched
      obtain run | ⟨-, rfl⟩ := left
      · exact (exec_nmiPending run).trans clear
      · exact clear

/-! ## Lock-up (60 R250, R261) -/

theorem fetchExec_eq_lockup : fetchExec u = .fault (.lockup t) ↔
    ∃ i v, fetchInstr u = .next (i, v) ∧ shapeOf i = .lock ∧ t = lockUp v := by
  simp [fetchExec, andThen_eq_fault, fetchInstr_ne_lockup, exec_eq_lockup]

/-- A tick answers `Lockup` when the machine is halted, or when a boundary tick fetches a JAM. -/
theorem step_eq_lockup : step s = .fault (.lockup t) ↔ (s.halted = true ∧ t = s) ∨
    (s.halted = false ∧ s.stall = 0 ∧ ∃ u i v, poll s = .next u ∧ fetchInstr u = .next (i, v) ∧
      shapeOf i = .lock ∧ t = lockUp v) := by
  cases running : s.halted
  case true => simp [step_of_halted running, eq_comm]
  case false =>
    obtain stall | queued := Nat.eq_zero_or_pos s.stall
    · simp [step_at_boundary running stall, stall, andThen_eq_fault, poll_ne_lockup, fetchExec_eq_lockup]
    · simp [step_of_stall running queued, Nat.ne_of_gt queued]

/-- The opcodes of `JAM_SET` are whole instructions, and lock up (46 R234). -/
theorem jamSet_locks : Config.jamSet.Forall fun op => opLength op = 1 ∧ shapeOf (assemble op 0 0) = .lock := by
  repeat' constructor

/-- No other instruction locks up. -/
theorem codeOf_mem_jamSet {i : Instr} (lock : shapeOf i = .lock) : codeOf i ∈ Config.jamSet := by
  cases i
  case jam02 | jam12 | jam22 | jam32 | jam42 | jam52 | jam62 | jam72 | jam92 | jamB2 | jamD2 | jamF2 => decide
  all_goals exact nomatch lock

/-- Fetching a JAM is reading an opcode of `JAM_SET` at PC, and no more. -/
theorem fetchInstr_jam : (∃ i, fetchInstr s = .next (i, t) ∧ shapeOf i = .lock) ↔
    ∃ op, memRead s.pc s = .next (op, t) ∧ op ∈ Config.jamSet := by
  have locks := List.forall_iff_forall_mem.1 jamSet_locks
  constructor
  · rintro ⟨i, fetched, lock⟩
    obtain ⟨op, u, read0, rfl, whole⟩ := fetchInstr_eq_next fetched
    have jam := codeOf_mem_jamSet lock
    obtain ⟨len, -⟩ := locks _ jam
    obtain rfl := whole len
    exact ⟨codeOf i, read0, jam⟩
  · rintro ⟨op, read0, jam⟩
    obtain ⟨len, lock⟩ := locks op jam
    exact ⟨_, fetchInstr_one read0 len, lock⟩

/-- Settles O47: the boundary tick that locks up is the one that fetches a JAM. -/
theorem lockupExactlyOnJamOrHalted : Obligations.LockupExactlyOnJamOrHalted := by
  intro s t
  rw [step_eq_lockup]
  refine or_congr_right (and_congr_right fun _ => and_congr_right fun _ => ?_)
  constructor
  · rintro ⟨u, i, v, polled, fetched, lock, rfl⟩
    obtain ⟨op, read0, jam⟩ := fetchInstr_jam.1 ⟨i, fetched, lock⟩
    exact ⟨u, v, op, polled, read0, jam, rfl⟩
  · rintro ⟨u, v, op, polled, read0, jam, rfl⟩
    obtain ⟨i, fetched, lock⟩ := fetchInstr_jam.2 ⟨op, read0, jam⟩
    exact ⟨u, i, v, polled, fetched, lock, rfl⟩

/-! ## Cycles (60 R276) -/

/-- A tick that goes on counts one. -/
theorem step_cycles (h : step s = .next t) : t.cycles = s.cycles + 1 := by
  obtain ⟨-, ⟨-, rfl⟩ | ⟨stall, u, i, v, polled, fetched, run⟩⟩ := step_eq_next.1 h
  · rfl
  · obtain ⟨-, cycles, -⟩ := poll_fetch_leaves stall polled fetched
    rw [exec_cycles run, cycles]

theorem ticks_cycles (n : Nat) : ∀ {s t : State}, ticks n s = .next t → t.cycles = s.cycles + n := by
  induction n with
  | zero => intro s t h; cases h; rfl
  | succ n ih =>
    intro s t h
    obtain ⟨u, first, rest⟩ := andThen_eq_next.1 h
    rw [ih rest, step_cycles first]
    omega

/-- A tick that locks up counts none. -/
theorem lockup_cycles (h : step s = .fault (.lockup t)) : t.cycles = s.cycles := by
  obtain ⟨-, rfl⟩ | ⟨-, stall, u, i, v, polled, fetched, -, rfl⟩ := step_eq_lockup.1 h
  · rfl
  · obtain ⟨-, cycles, -⟩ := poll_fetch_leaves stall polled fetched
    exact cycles

/-- Settles O54, by induction on the number of ticks. -/
theorem ticksCountCycles : Obligations.TicksCountCycles := ⟨fun n _ _ => ticks_cycles n, fun _ _ => lockup_cycles⟩

/-! ## Well-formed states (60 R277) -/

/-- Memory that is canonical and lists only bytes that exist beside an image of `size` bytes. -/
structure Memory.Fits (size : Nat) (m : Memory) : Prop where
  canonical : m.wf = true
  listed : m.all (fun cell => physicalKey size cell.1) = true

theorem State.wf_iff : s.wf = true ↔
    s.mem.Fits s.prgSize ∧ 0 < s.prgSize ∧ s.prgSize ≤ 0x8000 ∧ (s.halted = true → s.stall = 0) := by
  have fits : s.mem.Fits s.prgSize ↔
      s.mem.wf = true ∧ s.mem.all (fun cell => physicalKey s.prgSize cell.1) = true :=
    ⟨fun h => ⟨h.canonical, h.listed⟩, fun h => ⟨h.1, h.2⟩⟩
  rw [fits]
  cases hs : s.halted <;> simp [State.wf, hs, and_assoc]

theorem Memory.Fits.write {size key : Nat} {m : Memory} (h : m.Fits size) (hk : physicalKey size key = true)
    (b : Byte) : (m.write key b).Fits size :=
  ⟨Memory.write_wf h.canonical key b, Memory.write_all hk h.listed⟩

/-- Dropping bytes keeps the form, also beside another image, if the bytes that are left exist beside that one. -/
theorem Memory.Fits.filter {size size' : Nat} {m : Memory} (h : m.Fits size) {p : Host.Cell → Bool}
    (hp : ∀ cell, p cell = true → physicalKey size cell.1 = true → physicalKey size' cell.1 = true) :
    Memory.Fits size' (m.filter p) := by
  refine ⟨Memory.filter_wf p h.canonical, ?_⟩
  have listed := List.all_eq_true.1 h.listed
  rw [List.all_filter, List.all_eq_true]
  intro cell mem
  cases hc : p cell
  · rfl
  · exact hp cell hc (listed cell mem)

theorem loadAt_fits {size : Nat} (bytes : List Byte) : ∀ {key : Nat} {m : Memory}, m.Fits size → 0x8000 ≤ key →
    key + bytes.length ≤ 0x8000 + size → (loadAt key bytes m).Fits size := by
  induction bytes with
  | nil => exact fun h _ _ => h
  | cons b rest ih =>
    intro key m h low high
    rw [List.length_cons] at high
    have physical : physicalKey size key = true := by
      simp only [physicalKey, Bool.or_eq_true, Bool.and_eq_true, decide_eq_true_eq]
      omega
    exact ih (h.write physical b) (by omega) (by omega)

theorem loadRam_fits {size : Nat} (bytes : List Byte) : ∀ {key : Nat} {m : Memory}, m.Fits size →
    (loadRam key bytes m).Fits size := by
  induction bytes with
  | nil => exact fun h => h
  | cons b rest ih =>
    intro key m h
    rw [loadRam]
    split
    · rename_i ram
      have physical : physicalKey size key = true := by simp [physicalKey, ram]
      exact ih (h.write physical b)
    · exact h

/-- What is kept of the memory, and no stall queued on a halted machine, is all that well-formedness asks. -/
theorem Kept.wf (k : Kept s t) (w : s.wf = true) (halted : t.halted = true → t.stall = 0) : t.wf = true := by
  obtain ⟨fits, pos, le, -⟩ := State.wf_iff.1 w
  rw [State.wf_iff, k.prgSize]
  exact ⟨⟨k.canonical fits.canonical, k.listed _ fits.listed⟩, pos, le, halted⟩

/-- A tick leaves a well-formed state well-formed: what it leaves halted was so, or is a JAM's. -/
theorem TickLeaves.wf (h : TickLeaves s t) (w : s.wf = true) : t.wf = true := by
  refine (tickLeaves_kept h).wf w fun halted => ?_
  obtain ⟨-, rfl⟩ | ⟨running, ⟨-, rfl⟩ | ⟨stall, u, i, v, polled, fetched, left⟩⟩ := tickLeaves_iff.1 h
  · obtain ⟨-, -, -, idle⟩ := State.wf_iff.1 w
    exact idle halted
  · exact absurd (running.symm.trans halted) (by decide)
  · obtain run | ⟨-, rfl⟩ := left
    · obtain ⟨-, -, kept⟩ := poll_fetch_leaves stall polled fetched
      rw [exec_halted run, kept, running] at halted
      exact nomatch halted
    · rfl

/-- Loading an image that fits replaces the bytes of the one before. -/
theorem loadImage_wf {image : List Byte} (w : s.wf = true) (pos : 0 < image.length)
    (le : image.length ≤ 0x8000) : (loadImage image s).wf = true := by
  obtain ⟨fits, -, -, idle⟩ := State.wf_iff.1 w
  have below : Memory.Fits image.length (s.mem.filter fun cell => decide (cell.1 < 0x8000)) :=
    fits.filter fun cell low listed => by
      simp only [physicalKey, Bool.or_eq_true, Bool.and_eq_true, decide_eq_true_eq] at low listed ⊢
      omega
  exact State.wf_iff.2 ⟨loadAt_fits image below le_rfl le_rfl, pos, le, idle⟩

/-- A power cycle drops bytes, loads RAM and clears the lock-up. -/
theorem powerOn_wf {p : PowerOn} (w : s.wf = true) (h : powerOn p s = .next t) : t.wf = true := by
  obtain ⟨fits, pos, le, -⟩ := State.wf_iff.1 w
  have kept : Memory.Fits s.prgSize (cartMemory p.keepPrgRam s.mem) := fits.filter fun _ _ listed => listed
  rw [powerOn_eq] at h
  split at h <;> cases h
  exact State.wf_iff.2 ⟨loadRam_fits p.ram kept, pos, le, nofun⟩

/-- Settles O60, by induction on how the state is reached: the inputs are nothing that well-formedness asks about. -/
theorem reachableStatesAreWellFormed : Obligations.ReachableStatesAreWellFormed := by
  intro s reached
  induction reached with
  | reset => rfl
  | tick _ next w => exact TickLeaves.wf (.inl next) w
  | lockup _ locked w => exact TickLeaves.wf (.inr locked) w
  | nmi _ w | irq _ _ w | rendering _ _ w | devFaults _ _ w | mapper _ _ w => exact w
  | image prg _ pos le w => exact loadImage_wf w pos le
  | power p _ next w => exact powerOn_wf w next

end Sys2Proof.Machine
end

section
/-! PROOF. The statements left over from the families before: the constants of ANE and LXA, that nothing is refused, the
state after reset, and the invariant of ticks. That nothing is refused is said once of a sequence
(`Unrefused.andThen`) and once of each shape of instruction. -/

namespace Sys2Proof.Machine

open Sys2Proof.Forms

/-! ## ANE and LXA (46 R222, R223) -/

/-- Settles O42: with its constant bound, each opcode is an immediate read of the machine, whatever byte the
constant is. -/
theorem aneAndLxaRunOnAFreeConstant : Obligations.AneAndLxaRunOnAFreeConstant := by
  rw [Obligations.AneAndLxaRunOnAFreeConstant, ← setNZ_eq_setZeroNegative]
  exact ⟨immediateRule_of_isRead (f := ane Config.aneByte) (fun _ => ⟨rfl, rfl, rfl, rfl⟩) fun _ _ _ => rfl,
    immediateRule_of_isRead (f := lxa Config.lxaByte) (fun _ => ⟨rfl, rfl, rfl, rfl⟩) fun _ _ _ => rfl⟩

/-! ## Nothing is refused (30 R77) -/

/-- The answer is a value or a fault. -/
def Unrefused {α : Type} (r : Res α) : Prop := ∀ e, r ≠ .refused e

theorem Unrefused.next {α : Type} (x : α) : Unrefused (.next x : Res α) := nofun

theorem Unrefused.fault {α : Type} (f : Fault) : Unrefused (.fault f : Res α) := nofun

/-- A sequence is refused only where one of its parts is. -/
theorem Unrefused.andThen {α β : Type} {r : Res α} {k : α → Res β} (first : Unrefused r)
    (rest : ∀ x, Unrefused (k x)) : Unrefused (andThen r k) := by
  cases r with
  | next x => exact rest x
  | fault f => exact .fault f
  | refused e => exact absurd rfl (first e)

theorem memRead_unrefused (addr : Word) (s : State) : Unrefused (memRead addr s) := by
  unfold memRead
  cases readFault addr s
  · exact .next _
  · exact .fault _

theorem memWrite_unrefused (tw : Nat) (addr : Word) (b : Byte) (s : State) : Unrefused (memWrite tw addr b s) := by
  unfold memWrite
  cases writeFault addr b s
  · exact .next _
  · exact .fault _

theorem fetchOperand_unrefused (m : Mode) (s : State) : Unrefused (fetchOperand m s) := by
  cases m
  case imm => exact .next _
  all_goals exact memRead_unrefused _ s

theorem takeException_unrefused (vec ret : Word) (brk : Bool) (s : State) :
    Unrefused (takeException vec ret brk s) :=
  have vector : Unrefused (read16 vec _) :=
    .andThen (memRead_unrefused vec _) fun _ => .andThen (memRead_unrefused _ _) fun _ => .next _
  .andThen vector fun _ => .next _

theorem enterInterrupt_unrefused (vec : Word) (s : State) : Unrefused (enterInterrupt vec s) :=
  .andThen (takeException_unrefused vec s.pc false s) fun _ => .next _

theorem poll_unrefused (s : State) : Unrefused (poll s) := by
  unfold poll
  split
  · exact enterInterrupt_unrefused _ _
  · split
    · exact enterInterrupt_unrefused _ s
    · exact .next s

theorem fetchInstr_unrefused (s : State) : Unrefused (fetchInstr s) := by
  refine .andThen (memRead_unrefused _ s) fun op => ?_
  split
  · exact .next _
  · refine .andThen (memRead_unrefused _ _) fun b1 => ?_
    split
    · exact .next _
    · exact .andThen (memRead_unrefused _ _) fun _ => .next _

/-- No shape of instruction is refused: each is a sequence of bus accesses. -/
theorem Shape.run_unrefused (sh : Shape) (s : State) : Unrefused (sh.run s) := by
  cases sh with
  | read m f =>
    rw [Shape.run, readInstr, dummyRead_none, andThen_next]
    exact .andThen (fetchOperand_unrefused m _) fun _ => .next _
  | store m value =>
    rw [Shape.run, storeInstr, dummyRead_none, andThen_next]
    exact .andThen (memWrite_unrefused _ _ _ _) fun _ => .next _
  | rmw m result post =>
    simp only [Shape.run, rmwInstr, dummyRead_none, dummyWrite_none, andThen_next]
    exact .andThen (memRead_unrefused _ _) fun _ => .andThen (memWrite_unrefused _ _ _ _) fun _ => .next _
  | unstable mnemonic m pre reg =>
    simp only [Shape.run, shInstr, dummyRead_none, andThen_next]
    exact .andThen (memWrite_unrefused _ _ _ _) fun _ => .next _
  | jumpIndirect addr =>
    exact .andThen (memRead_unrefused _ _) fun _ => .andThen (memRead_unrefused _ _) fun _ => .next _
  | brk => exact .andThen (takeException_unrefused _ _ _ _) fun _ => .next _
  | acc | implied | branch | jump | call => exact .next _
  | lock => exact .fault _

/-- ANE, LXA and the JAMs included: their parameters are bound (log entries 9, 10, 11). -/
theorem exec_unrefused (i : Instr) (s : State) : Unrefused (exec i s) := by
  rw [exec_eq_run]
  exact (shapeOf i).run_unrefused s

theorem step_unrefused (s : State) : Unrefused (step s) := by
  unfold step tick
  split
  · exact .fault _
  · split
    · exact .next _
    · exact .andThen (poll_unrefused s) fun u => .andThen (fetchInstr_unrefused u) fun r => exec_unrefused r.1 r.2

/-- Settles O45, by the parts of a tick: poll, fetch, and the instruction by its shape. -/
theorem nothingIsRefused : Obligations.NothingIsRefused := ⟨exec_unrefused, step_unrefused⟩

/-! ## The state after reset (10 R38, 70 R290-R293) -/

/-- Settles O57: the NROM cartridge answers the vector reads, and the blank image holds $0000 there. -/
theorem stateAfterReset : Obligations.StateAfterReset := by
  refine ⟨?_, by decide⟩
  rw [powerOn_eq, vectorFault_nrom (rebuilt_nrom _ rfl) (by decide) (by decide)]
  rfl

/-- Settles O58: memory is empty, the image is 16384 bytes, and nothing is locked up. -/
theorem resetIsWellFormed : Obligations.ResetIsWellFormed :=
  State.wf_iff.2 ⟨⟨rfl, rfl⟩, by decide, by decide, nofun⟩

/-! ## The invariant of ticks -/

/-- Settles O59: what a tick keeps of memory is what the invariant asks, and only a JAM's tick halts a machine,
clearing its stall. -/
theorem tickKeepsWellFormed : Obligations.TickKeepsWellFormed := fun _ _ w left => left.wf w

end Sys2Proof.Machine
end
